-- ==== Sys2Proof/Word.lean ====
section
/-! DEFINITION. The words of the block: bit vectors of the widths the spec names (00_scope.md R10; R8 for the device
address, 10_state.md R21 to R29 for the registers). Bit 0 is the least significant bit. -/

namespace Sys2Proof

/-- `u8` (R10): a byte on the wire, a latch element, an operand byte. -/
abbrev Byte := BitVec 8

/-- `u16` (R10): the CRC accumulator, a trailer, a 16-bit target address. -/
abbrev Half := BitVec 16

/-- `u32` (R10): an operation word, a host register. -/
abbrev Word := BitVec 32

/-- `u64` (R8): a device address on the single-wire bus. -/
abbrev Addr := BitVec 64

end Sys2Proof
end

