-- ==== Sys2Proof/Config.lean ====
section
/-! DEFINITION. What is fixed for a block instance: the implementation parameters of 00_scope.md R7 (constants where only one
value is admitted, fields of `Cfg` where 93_implementation_defined.md I1 and I3 keep them as parameters), the configuration
record `CFG` of R8 with its well-formedness R9, and the free values (the transport's answers, 20_memory.md R57). -/

namespace Sys2Proof.Config

/-- `N_GPIO` (R7): discrete channels of a GPIO device. -/
abbrev nGpio : Nat := 8

/-- `CNT_SKIP` (R7): page payload bytes read and discarded before a counter. -/
abbrev cntSkip : Nat := 32

/-- `CNT_LEN` (R7): counter value bytes. -/
abbrev cntLen : Nat := 4

/-- `SP_LEN` (R7): scratchpad bytes read in one analog phase. -/
abbrev spLen : Nat := 9

/-- `TEMP_DIV` (R7). -/
abbrev tempDiv : Rat := 256

/-- `VOLT_DIV` (R7). -/
abbrev voltDiv : Rat := 100

/-- `CURR_LSB` (R7): 0.0002441 = 2441/10000000 exactly, split as numerator and denominator (R178). -/
abbrev currLsbNum : Rat := 2441
abbrev currLsbDen : Rat := 10000000

/-- The transport oracle's answer to the `n`-th `BusReset`, where the answers supplied as plain data have run out: "either
boolean" (R57). A FREE VALUE: it has no body, so nothing can be proved of it (notes/assumptions/2.md). -/
opaque freeReset : Nat → Bool

/-- The transport oracle's answer to the `n`-th `BusRead`, likewise: "any byte" (R57). A FREE VALUE. -/
opaque freeByte : Nat → Byte

end Sys2Proof.Config

namespace Sys2Proof

/-- `CFG` (R8): the configuration record of one block instance, "fixed for the life of the instance", with the parameters of R7
that an instance of the model is given: CRC_SEED, CRC_POLY_R and CRC_OUT_XOR (I3, D5, D7), the minimum waits and T_WAIT_MAX (I1,
D16), and CNT_VALIDATE (R9). The defaults are R7's values. -/
structure Cfg where
  addrGpio : Addr
  addrCnt  : Addr
  addrAdc  : Addr
  /-- bit i set iff discrete channel i has a bound sink -/
  bindGpio : Byte
  bindCntA : Bool
  bindCntB : Bool
  bindTemp : Bool
  bindVdd  : Bool
  bindVad  : Bool
  bindCurr : Bool
  /-- the shunt resistance, a rational number -/
  shunt    : Rat
  /-- `CNT_VALIDATE`: only `false` is admitted (R9, R157) -/
  cntValidate : Bool
  /-- `CRC_SEED`: "seeded to all-ones (0xFFFF)" -/
  crcSeed   : Half := 0xFFFF#16
  /-- `CRC_POLY_R`: the reflected feedback constant of the fold. The spec takes its default from general knowledge (D5, GK1;
  notes/assumptions/15.md) -/
  crcPolyR  : Half := 0xA001#16
  /-- `CRC_OUT_XOR`: XORed into the accumulator before the trailer compare (D7) -/
  crcOutXor : Half := 0x0000#16
  /-- `T_CFG`, `T_CONV_T`, `T_CONV_V`, `T_RECALL` in milliseconds, each a LOWER bound (R58, R238) -/
  tCfgMs    : Nat := 10
  tConvTMs  : Nat := 10
  tConvVMs  : Nat := 100
  tRecallMs : Nat := 10
  /-- `T_WAIT_MAX` in milliseconds, OPEN: the upper bound of any wait, or none where none is given -/
  tWaitMaxMs : Option Nat := none
deriving DecidableEq, Repr

/-- R9: "`CFG` is well formed iff `CFG.SHUNT > 0` and `CNT_VALIDATE = false`". -/
def Cfg.wf (c : Cfg) : Bool := decide (0 < c.shunt) && !c.cntValidate

/-- DESIGN CHOICE (notes/assumptions/3.md): the configuration of `State.reset`. The spec fixes no configuration. This is
`CFG0`, the default configuration of its test vectors (95_test_vectors.md). -/
def Cfg.cfg0 : Cfg where
  addrGpio := 0x29#64
  addrCnt  := 0x1D#64
  addrAdc  := 0x26#64
  bindGpio := 0xFF#8
  bindCntA := true
  bindCntB := true
  bindTemp := true
  bindVdd  := true
  bindVad  := true
  bindCurr := true
  shunt    := 1
  cntValidate := false

end Sys2Proof
end

