-- ==== Sys2Proof/Syntax.lean ====
section
/-! DEFINITION. The instructions: one constructor for each of the 30 rows of spec/opcode_table.json. The first 19 are the
operation words a host writes to CMD (30_encoding.md R85). The next 7 are the wire command bytes (R87) and the last 4 the
analog configuration bytes (R88), which the block's own sequencers put on the bus. -/

namespace Sys2Proof

/-- The selector bit `A[0]` of CNT_PAGE and CNT_POLL: "0 = counter A, 1 = counter B" (R81). -/
inductive Counter where
  | a
  | b
deriving DecidableEq, Repr

inductive Instr where
  -- operation words (R85), in the table's order
  | crcInit
  | crcUpdate (byte : Byte)
  | crcCheck (trailer : Half)
  | gpioDecode (snapshot : Byte)
  | edgeDetect (snapshot : Byte)
  | gpioFail
  | gpioPoll
  | cntPage (sel : Counter)
  | cntLoad (k : Fin 4) (byte : Byte)
  | cntAssemble
  | cntClear
  | cntPoll (sel : Counter)
  | adcConfig (vdd iad : Bool)
  | spLoad (k : Byte) (byte : Byte)
  | spClear
  | adcTemp
  | adcVolt
  | adcCurr
  | adcPoll
  -- wire command bytes (R87)
  | wireReadRegister
  | wireReadMemoryCounter
  | wireWriteScratchpad
  | wireConvertT
  | wireConvertV
  | wireRecallMemory
  | wireReadScratchpad
  -- analog configuration bytes (R88)
  | cfgVddIad0
  | cfgVddIad1
  | cfgVadIad0
  | cfgVadIad1
deriving DecidableEq, Repr

end Sys2Proof
end

