-- ==== Sys2Proof/WellFormed.lean ====
section
/-! DEFINITION. Which terms of `Instr` an encoding exists for. The types of the operands carry every bound but one: the
latch index of SP_LOAD is a whole byte of which only 0 to 8 are legal (30_encoding.md R82, R83). -/

namespace Sys2Proof

/-- R82: "for SP_LOAD, `B ≤ 8`". Every other constructor's operands are legal at every value of their types. -/
def Instr.wf : Instr → Bool
  | .spLoad k _ => decide (k.toNat ≤ 8)
  | .crcInit | .crcUpdate _ | .crcCheck _ => true
  | .gpioDecode _ | .edgeDetect _ | .gpioFail | .gpioPoll => true
  | .cntPage _ | .cntLoad _ _ | .cntAssemble | .cntClear | .cntPoll _ => true
  | .adcConfig _ _ | .spClear | .adcTemp | .adcVolt | .adcCurr | .adcPoll => true
  | .wireReadRegister | .wireReadMemoryCounter | .wireWriteScratchpad | .wireConvertT => true
  | .wireConvertV | .wireRecallMemory | .wireReadScratchpad => true
  | .cfgVddIad0 | .cfgVddIad1 | .cfgVadIad0 | .cfgVadIad1 => true

end Sys2Proof
end

