-- ==== Sys2Proof/Decode.lean ====
section
/-! DEFINITION. Decoding and encoding (30_encoding.md R80 to R91). Two encodings exist: the 32-bit operation word a host
writes to CMD, and the byte a sequencer puts on the single-wire bus. Decoding is total and rejects by name. -/

namespace Sys2Proof

/-- One instruction's bits, in the encoding its row has: an operation word (R80) or a byte on the wire (R87, R88). -/
inductive Code where
  | cmd (w : Word)
  | wire (b : Byte)
deriving DecidableEq, Repr

/-- Why bits are no instruction. The first three are the three ways R82 makes a word illegal. -/
inductive DecodeError where
  /-- R83: an OPC value not in the table of R85 -/
  | unknownOpc
  /-- R83: a reserved operand bit is 1 -/
  | reservedBit
  /-- R83: SP_LOAD with `B` in 9..255 -/
  | indexRange
  /-- a byte that is none of the wire command and configuration bytes of R87 and R88 -/
  | unknownWireByte
  /-- bits of a length no row of the table has (R80: "There is no other length") -/
  | badLength
deriving DecidableEq, Repr

/-! ### The fields of an operation word (R80) -/

/-- `OPC`, bits 7:0. -/
def opcField (w : Word) : Byte := w.extractLsb' 0 8
/-- `A`, bits 15:8. -/
def aField (w : Word) : Byte := w.extractLsb' 8 8
/-- `B`, bits 23:16. -/
def bField (w : Word) : Byte := w.extractLsb' 16 8

/-- The selector bit `A[0]`: 0 = counter A, 1 = counter B (R81). -/
def selOperand (a : Byte) : Counter := if a.getLsbD 0 then .b else .a

/-- The latch index `B[1:0]` of CNT_LOAD (R81). -/
def cntIndexOperand (b : Byte) : Fin 4 := (b.extractLsb' 0 2).toFin

/-- CRC_CHECK's trailer operand `T = {B, A}` (R81). -/
def trailerOperand (a b : Byte) : Half := b ++ a

/-! ### The operation map (R85) -/

/-- A row of the operation map: `match`, `mask` and the operation with its operands. -/
structure OpRow where
  pat   : Word
  mask  : Word
  build : Byte → Byte → Instr

/-- R85, the CRC unit and the GPIO unit. -/
def opRowsCrcGpio : List OpRow :=
  [ ⟨0x00000001#32, 0xFFFFFFFF#32, fun _ _ => .crcInit⟩,
    ⟨0x00000002#32, 0xFFFF00FF#32, fun a _ => .crcUpdate a⟩,
    ⟨0x00000003#32, 0xFF0000FF#32, fun a b => .crcCheck (trailerOperand a b)⟩,
    ⟨0x00000010#32, 0xFFFF00FF#32, fun a _ => .gpioDecode a⟩,
    ⟨0x00000011#32, 0xFFFF00FF#32, fun a _ => .edgeDetect a⟩,
    ⟨0x00000012#32, 0xFFFFFFFF#32, fun _ _ => .gpioFail⟩,
    ⟨0x00000013#32, 0xFFFFFFFF#32, fun _ _ => .gpioPoll⟩ ]

/-- R85, the counter unit and the analog unit. -/
def opRowsCntAdc : List OpRow :=
  [ ⟨0x00000020#32, 0xFFFFFEFF#32, fun a _ => .cntPage (selOperand a)⟩,
    ⟨0x00000021#32, 0xFFFC00FF#32, fun a b => .cntLoad (cntIndexOperand b) a⟩,
    ⟨0x00000022#32, 0xFFFFFFFF#32, fun _ _ => .cntAssemble⟩,
    ⟨0x00000023#32, 0xFFFFFFFF#32, fun _ _ => .cntClear⟩,
    ⟨0x00000024#32, 0xFFFFFEFF#32, fun a _ => .cntPoll (selOperand a)⟩,
    ⟨0x00000030#32, 0xFFFFFCFF#32, fun a _ => .adcConfig (a.getLsbD 0) (a.getLsbD 1)⟩,
    ⟨0x00000031#32, 0xFF0000FF#32, fun a b => .spLoad b a⟩,
    ⟨0x00000032#32, 0xFFFFFFFF#32, fun _ _ => .spClear⟩,
    ⟨0x00000033#32, 0xFFFFFFFF#32, fun _ _ => .adcTemp⟩,
    ⟨0x00000034#32, 0xFFFFFFFF#32, fun _ _ => .adcVolt⟩,
    ⟨0x00000035#32, 0xFFFFFFFF#32, fun _ _ => .adcCurr⟩,
    ⟨0x00000036#32, 0xFFFFFFFF#32, fun _ _ => .adcPoll⟩ ]

/-- R85: the 19 operations. -/
def opRows : List OpRow := opRowsCrcGpio ++ opRowsCntAdc

/-- R82, `lookup(w[7:0])`. -/
def lookupOp (opc : Byte) : Option OpRow := opRows.find? fun r => opcField r.pat == opc

/-- R82: decoding of an operation word. -/
def decodeCmd (w : Word) : Except DecodeError Instr :=
  match lookupOp (opcField w) with
  | none => .error .unknownOpc
  | some r =>
    if w &&& r.mask = r.pat then
      if (r.build (aField w) (bField w)).wf then .ok (r.build (aField w) (bField w)) else .error .indexRange
    else .error .reservedBit

/-- The wire command bytes of R87 and the configuration bytes of R88. -/
def wireRows : List (Byte × Instr) :=
  [ (0xF0#8, .wireReadRegister), (0xA5#8, .wireReadMemoryCounter), (0x4E#8, .wireWriteScratchpad),
    (0x44#8, .wireConvertT), (0xB4#8, .wireConvertV), (0xB8#8, .wireRecallMemory),
    (0xBE#8, .wireReadScratchpad), (0x08#8, .cfgVddIad0), (0x09#8, .cfgVddIad1),
    (0x00#8, .cfgVadIad0), (0x01#8, .cfgVadIad1) ]

/-- The wire byte's row, if it has one. -/
def decodeWire (b : Byte) : Except DecodeError Instr :=
  match wireRows.find? fun r => r.1 == b with
  | some r => .ok r.2
  | none => .error .unknownWireByte

def decode : Code → Except DecodeError Instr
  | .cmd w => decodeCmd w
  | .wire b => decodeWire b

/-- Decoding of bytes as stored: four bytes are an operation word, low byte first (20_memory.md R60: "a host bus that splits
a 32-bit access into bytes uses little-endian order"); one byte is a byte on the wire. -/
def decodeBytes : List Byte → Except DecodeError Instr
  | [b] => decode (.wire b)
  | [b0, b1, b2, b3] => decode (.cmd (b3 ++ b2 ++ b1 ++ b0))
  | _ => .error .badLength

/-! ### The encoder (R91) -/

/-- R91: `w = zext_32(OPC) | (A << 8) | (B << 16)`, C = 0. -/
def cmdWord (opc a b : Byte) : Word := (0#8 ++ b) ++ (a ++ opc)

/-- `A[0]` of a selector: "A encodes sel 0, B sel 1" (R89). -/
def selByte : Counter → Byte
  | .a => 0#8
  | .b => 1#8

/-- `A[0]` = VDD select, `A[1]` = IAD (R81). -/
def adcConfigByte (vdd iad : Bool) : Byte := 0#6 ++ BitVec.ofBool iad ++ BitVec.ofBool vdd

/-- The bits of an instruction, from the tables of R85, R87 and R88 with the operand places of R81. -/
def encode : Instr → Code
  | .crcInit => .cmd (cmdWord 0x01#8 0#8 0#8)
  | .crcUpdate byte => .cmd (cmdWord 0x02#8 byte 0#8)
  | .crcCheck t => .cmd (cmdWord 0x03#8 (t.extractLsb' 0 8) (t.extractLsb' 8 8))
  | .gpioDecode s => .cmd (cmdWord 0x10#8 s 0#8)
  | .edgeDetect s => .cmd (cmdWord 0x11#8 s 0#8)
  | .gpioFail => .cmd (cmdWord 0x12#8 0#8 0#8)
  | .gpioPoll => .cmd (cmdWord 0x13#8 0#8 0#8)
  | .cntPage sel => .cmd (cmdWord 0x20#8 (selByte sel) 0#8)
  | .cntLoad k byte => .cmd (cmdWord 0x21#8 byte (BitVec.ofNat 8 k.val))
  | .cntAssemble => .cmd (cmdWord 0x22#8 0#8 0#8)
  | .cntClear => .cmd (cmdWord 0x23#8 0#8 0#8)
  | .cntPoll sel => .cmd (cmdWord 0x24#8 (selByte sel) 0#8)
  | .adcConfig vdd iad => .cmd (cmdWord 0x30#8 (adcConfigByte vdd iad) 0#8)
  | .spLoad k byte => .cmd (cmdWord 0x31#8 byte k)
  | .spClear => .cmd (cmdWord 0x32#8 0#8 0#8)
  | .adcTemp => .cmd (cmdWord 0x33#8 0#8 0#8)
  | .adcVolt => .cmd (cmdWord 0x34#8 0#8 0#8)
  | .adcCurr => .cmd (cmdWord 0x35#8 0#8 0#8)
  | .adcPoll => .cmd (cmdWord 0x36#8 0#8 0#8)
  | .wireReadRegister => .wire 0xF0#8
  | .wireReadMemoryCounter => .wire 0xA5#8
  | .wireWriteScratchpad => .wire 0x4E#8
  | .wireConvertT => .wire 0x44#8
  | .wireConvertV => .wire 0xB4#8
  | .wireRecallMemory => .wire 0xB8#8
  | .wireReadScratchpad => .wire 0xBE#8
  | .cfgVddIad0 => .wire 0x08#8
  | .cfgVddIad1 => .wire 0x09#8
  | .cfgVadIad0 => .wire 0x00#8
  | .cfgVadIad1 => .wire 0x01#8

/-- The instruction's bits laid out as bytes, the inverse of `decodeBytes` on the words of the table. -/
def Code.bytes : Code → List Byte
  | .wire b => [b]
  | .cmd w => [w.extractLsb' 0 8, w.extractLsb' 8 8, w.extractLsb' 16 8, w.extractLsb' 24 8]

/-- The instruction whose bits, numbered as spec/opcode_table.json numbers them, are `w`: the rows have 32 bits (an operation
word) or 8 (a byte on the wire). -/
def decodeTableWord (nbits w : Nat) : Option Instr :=
  if nbits = 32 then (decodeBytes (Code.cmd (BitVec.ofNat 32 w)).bytes).toOption
  else if nbits = 8 then (decodeBytes (Code.wire (BitVec.ofNat 8 w)).bytes).toOption
  else none

end Sys2Proof
end

