-- ==== Sys2Proof/Machine/State.lean ====
section
/-! DEFINITION. The state of one block instance with its surroundings, as plain data (10_state.md R20 to R36, 20_memory.md
R57, R66), the reasons a step stops, and the state after reset (70_reset_and_hazards.md R230, R231). -/

namespace Sys2Proof.Machine

/-! ### Events (00_scope.md R12 to R15) -/

/-- Channel identifiers (R13). -/
inductive Channel where
  | gpio (i : Fin 8)
  | cntA
  | cntB
  | temp
  | vdd
  | vad
  | curr
deriving DecidableEq, Repr

/-- A published value (R12): `Value = Bool(b) | Num(q) | Unavailable`, with `q` an exact rational. -/
inductive Value where
  | bool (b : Bool)
  | num (q : Rat)
  | unavailable
deriving DecidableEq, Repr

/-- The four waits of the analog sequencer (R7, R180). -/
inductive WaitName where
  | tCfg
  | tConvT
  | tConvV
  | tRecall
deriving DecidableEq, Repr

/-- One transport call or publish (R15): the events of R52 to R58 and `Publish`. -/
inductive Event where
  | reset (present : Bool)
  | select (a : Addr)
  | write (v : Byte)
  | read (v : Byte)
  | wait (t : WaitName)
  | publish (ch : Channel) (v : Value)
deriving DecidableEq, Repr

/-! ### The sequencer (R32, R125, R156, R180 to R183) -/

/-- The steps of GPIO_POLL (R32, R125). -/
inductive GpioStep where
  | busCheck
  | transact
  | validate
  | publish
  | unavailable
deriving DecidableEq, Repr

/-- The steps of CNT_POLL (R156). -/
inductive CntStep where
  | busCheck
  | transact
  | publish
deriving DecidableEq, Repr

/-- The steps of ADC_POLL (R180). -/
inductive AdcStep where
  | writeSp
  | convertT
  | convertV
  | recall
  | readSp
deriving DecidableEq, Repr

/-- "a pair (poll operation, step name)" (R32). -/
inductive Position where
  | gpioPoll (st : GpioStep)
  | cntPoll (st : CntStep)
  | adcPoll (st : AdcStep)
deriving DecidableEq, Repr

/-- SEQ (R32): "`IDLE`, or a pair (poll operation, step name)". -/
inductive Seq where
  | idle
  | running (p : Position)
deriving DecidableEq, Repr

/-- The bus lock (R66): free, held by this instance, or held by another transport user. -/
inductive Lock where
  | free
  | mine
  | other
deriving DecidableEq, Repr

/-- The two phases of ADC_POLL: `first` of R180 and the configuration byte of R170. -/
inductive Phase where
  | one
  | two
deriving DecidableEq, Repr

/-- The device families a sequencer selects (R50: `CFG.ADDR_GPIO`, `CFG.ADDR_CNT`, `CFG.ADDR_ADC`). -/
inductive Device where
  | gpio
  | cnt
  | adc
deriving DecidableEq, Repr

/-- OUTCOME codes by name (60_exceptions.md R200). -/
inductive OutcomeCode where
  | ok
  | busUnreachable
  | checksumMismatch
  | skippedUnbound
  | phase2Unreachable
deriving DecidableEq, Repr

/-- FAULT codes by name (60_exceptions.md R204). -/
inductive FaultCode where
  | illegalEncoding
  | latchUnwritten
  | configInvalid
deriving DecidableEq, Repr

/-- How a poll operation leaves its ordinary course: a failed initial reset (R126, R156, R182, R184) or a trailer that does
not match (R128). -/
inductive Failure where
  | gpioUnreachable
  | gpioChecksum
  | cntUnreachable
  | adcUnreachable
  | adcPhase2
deriving DecidableEq, Repr

/-- Where a byte read from the bus goes. -/
inductive ReadDst where
  /-- R156: "page payload, discarded" -/
  | discard
  /-- `s` of R125 -/
  | snap
  /-- the low and the high byte of the trailer `t` of R125 (R56: low byte first) -/
  | trailLo
  | trailHi
  | cnt (k : Fin 4)
  | sp (k : Fin 9)
deriving DecidableEq, Repr

/-- The readings ADC_POLL publishes (R181, R182). -/
inductive AdcChannel where
  | temp
  | vdd
  | curr
  | vad
deriving DecidableEq, Repr

/-- One step of a poll operation that the sequencer has still to take: a line of the pseudocode of R125, R156 or R180 to
R183. Each makes at most one event. -/
inductive Micro where
  /-- acquire the bus lock (R66) -/
  | acquire
  /-- `SEQ <- (operation, step)` -/
  | enter (p : Position)
  /-- the phase whose measure-and-recall begins (R180: `MR(c, first)`) -/
  | setPhase (ph : Phase)
  /-- `p <- BusReset(); PRESENT <- p; if not p` leave by the failure given (R17: an initial reset) -/
  | initialReset (f : Failure)
  /-- `BusReset()` with its result ignored (R180, steps 2 to 5) -/
  | reset
  | select (d : Device)
  /-- a wire command or configuration byte of R87 or R88: the instruction the sequencer puts on the bus next -/
  | wire (b : Byte)
  /-- `BusWrite` of an address or page byte (R87) -/
  | write (b : Byte)
  | read (dst : ReadDst)
  | wait (t : WaitName)
  /-- the VALIDATE step of GPIO_POLL (R128) -/
  | validate
  /-- `if m[i] = 1: Publish(GPIO(i), Bool(s[i] = 0))` (R129) -/
  | publishEdge (i : Fin 8)
  /-- `RETAINED <- s` (R129) -/
  | retain
  /-- `if CFG.BIND_GPIO[i] = 1: Publish(GPIO(i), Unavailable)` (R130) -/
  | publishUnavailable (i : Fin 8)
  /-- the publish of CNT_POLL (R156) -/
  | publishCounter
  /-- a publish of ADC_POLL (R181, R182) -/
  | publishReading (ch : AdcChannel)
  /-- `OUTCOME <- code` -/
  | outcome (c : OutcomeCode)
  /-- END: `release bus lock; SEQ <- IDLE; BUSY <- 0` -/
  | finish
deriving DecidableEq, Repr

/-- The pseudocode variables of the poll operation in progress, which live from one event to a later one: `sel` (R156), the
phase (R180), `s` and the two bytes of `t` (R125, R127). -/
structure Work where
  sel     : Counter
  phase   : Phase
  snap    : Byte
  trailLo : Byte
  trailHi : Byte
deriving DecidableEq, Repr

/-- DESIGN CHOICE (notes/assumptions/6.md): the value of the pseudocode variables when no poll operation is in progress. -/
def Work.none : Work := ⟨.a, .one, 0#8, 0#8, 0#8⟩

/-! ### The surroundings -/

/-- A host access (20_memory.md R60, R61): width in bits, byte offset and, for a write, the value. -/
inductive HostAccess where
  | read (width offset : Nat)
  | write (width offset : Nat) (value : Word)
deriving DecidableEq, Repr

/-- Who moves in the next step (notes/assumptions/5.md). -/
inductive Turn where
  /-- the host makes its next access; a poll operation that it issues is begun, and goes on in the block's own turns -/
  | host
  /-- the sequencer takes one step of the poll operation in progress -/
  | block
  /-- reset is asserted and released (R232) -/
  | reset
  /-- another transport user takes the bus lock, if it is free (R66) -/
  | lockTake
  /-- that user releases it -/
  | lockRelease
deriving DecidableEq, Repr

/-- The state. INVENTORY.md, '## State', has one line for each field, with its rule. -/
structure State where
  /-- CFG (R8); no step changes it -/
  cfg         : Cfg
  -- the registers of the block (R21 to R30)
  crcAcc      : Half
  crcOk       : Bool
  retained    : Byte
  cntLatch    : Vector (Option Byte) 4
  sp          : Vector (Option Byte) 9
  result      : Word
  present     : Bool
  outcome     : BitVec 4
  fault       : BitVec 8
  busy        : Bool
  -- the sequencer (R32) and the bus lock (R66)
  seq         : Seq
  lock        : Lock
  todo        : List Micro
  work        : Work
  /-- transport events and publishes since reset, oldest first (R15, R36) -/
  events      : List Event
  -- the transport's answers (R57)
  resetTape   : List Bool
  resetPos    : Nat
  readTape    : List Byte
  readPos     : Nat
  -- the host and the schedule
  hostQ       : List HostAccess
  /-- offset and value of each host read answered, oldest first -/
  hostReplies : List (Nat × Word)
  sched       : List Turn
deriving DecidableEq, Repr

/-- Why a step stops. -/
inductive Fault where
  /-- Raised by `step` when the host's next access is a CMD write, FAULT ≠ 0 and the schedule holds no other move: "the host is
  stuck" (R206, R67; I14 `stuck`). Safe: nothing goes on in the model where the block would. -/
  | hostStuck
deriving DecidableEq, Repr

/-- What has no step. -/
inductive Refusal where
  /-- Raised by `exec` for an instruction whose meaning is still to be written. No arm raises it. Safe. -/
  | notModelled (mnemonic : String)
  /-- Raised by `step` for a host access of another width, offset or direction than R60 gives: "refused: a model gives it no
  step (the host is stuck). It does not change block state" (R61; I13 `refuse`). Safe. -/
  | hostAccess (a : HostAccess)
deriving DecidableEq, Repr

/-- The state right after reset of an instance whose configuration is `c` (R230, R231). The fields the spec does not name are
those of notes/assumptions/2.md, 5.md, 6.md and 9.md. CRC_ACC takes the seed, 0xFFFF by default: R230 says 0xFFFF and "equal to
CRC_SEED", R233 that "CRC_ACC resets to the seed" (notes/assumptions/15.md). The lock is free, where R230 says "not held by this
instance" (notes/assumptions/22.md). -/
def State.atReset (c : Cfg) : State where
  cfg         := c
  crcAcc      := c.crcSeed
  crcOk       := false
  retained    := 0xFF#8
  cntLatch    := Vector.replicate 4 none
  sp          := Vector.replicate 9 none
  result      := 0x00000000#32
  present     := false
  outcome     := 0#4
  fault       := if c.wf then 0x00#8 else 0x03#8
  busy        := false
  seq         := .idle
  lock        := .free
  todo        := []
  work        := Work.none
  events      := []
  resetTape   := []
  resetPos    := 0
  readTape    := []
  readPos     := 0
  hostQ       := []
  hostReplies := []
  sched       := []

/-- The state right after reset (R230) with the configuration `CFG0` (notes/assumptions/3.md). -/
def State.reset : State := State.atReset Cfg.cfg0

end Sys2Proof.Machine
end

