-- ==== Sys2Proof/Machine/Operands.lean ====
section
/-! DEFINITION. The operand and data forms of the family units: the edge mask (41_gpio_edge.md R120, R122), the page
multiplexer and the assembler (42_counter.md R150, R153), the configuration byte (30_encoding.md R88, 43_analog.md R170), the
scratchpad decodes (R174, R176, R178) and the conversion at the sink (00_scope.md R7). Pure functions of bytes. -/

namespace Sys2Proof.Machine

/-! ### Bytes and words -/

/-- `{hi, lo} = lo + 256 × hi` (20_memory.md R56, R59). -/
def halfOf (lo hi : Byte) : Half := hi ++ lo

/-- `zext_32` of a byte (R11). -/
def zext8 (b : Byte) : Word := b.setWidth 32

/-- `zext_32` of a u16 (R11). -/
def zext16 (h : Half) : Word := h.setWidth 32

/-- `sext_32` of a u16 (R11). -/
def sext16 (h : Half) : Word := h.signExtend 32

/-- `s16(v)` (R11): a u16 read as two's complement. -/
def s16 (h : Half) : Int := h.toInt

/-! ### GPIO (R120, R122) -/

/-- R120: "channel i is active iff bit i is 0". -/
def active (s : Byte) (i : Fin 8) : Bool := !s.getLsbD i

/-- R122: `edges(s, r, bind) = (s ^ r) & bind`. -/
def edges (s r bind : Byte) : Byte := (s ^^^ r) &&& bind

/-- The eight channels in ascending order (R15). -/
def channels : List (Fin 8) := [0, 1, 2, 3, 4, 5, 6, 7]

/-- R123, R129: `if m[i] = 1: Publish(GPIO(i), Bool(s[i] = 0))` for one channel. -/
def edgeEvent (s m : Byte) (i : Fin 8) : List Event :=
  if m.getLsbD i then [.publish (.gpio i) (.bool (active s i))] else []

/-- R124, R130: `if CFG.BIND_GPIO[i] = 1: Publish(GPIO(i), Unavailable)` for one channel. -/
def unavailableEvent (bind : Byte) (i : Fin 8) : List Event :=
  if bind.getLsbD i then [.publish (.gpio i) .unavailable] else []

/-- The publishes of one snapshot, in ascending channel (R123, R129). -/
def edgeEvents (s m : Byte) : List Event := channels.flatMap (edgeEvent s m)

/-- The publishes of a failure, in ascending channel (R124, R130). -/
def unavailableEvents (bind : Byte) : List Event := channels.flatMap (unavailableEvent bind)

/-! ### Counter (R150, R153) -/

/-- R150: `page(sel)`. -/
def page : Counter → Half
  | .a => 0x01C0#16
  | .b => 0x01E0#16

/-- The low and high bytes of a 16-bit target address, in the order they are written (R59). -/
def pageLo (sel : Counter) : Byte := (page sel).extractLsb' 0 8
def pageHi (sel : Counter) : Byte := (page sel).extractLsb' 8 8

/-- R150: `cnt_ch(sel)`. -/
def counterChannel : Counter → Channel
  | .a => .cntA
  | .b => .cntB

/-- R150: `cnt_bound(sel)`. -/
def counterBound (c : Cfg) : Counter → Bool
  | .a => c.bindCntA
  | .b => c.bindCntB

/-- R153: `assemble(b0, b1, b2, b3) = {b3, b2, b1, b0}`. -/
def assemble (b0 b1 b2 b3 : Byte) : Word := b3 ++ b2 ++ b1 ++ b0

/-! ### Analog (R88, R170, R174, R176, R178) -/

/-- R88: `cfg(vdd, iad) = (vdd ? 0x08 : 0x00) | (iad ? 0x01 : 0x00)`. -/
def cfgByte (vdd iad : Bool) : Byte := (if vdd then 0x08#8 else 0x00#8) ||| (if iad then 0x01#8 else 0x00#8)

/-- R170: phase 1 writes `cfg(1, iad)`, phase 2 `cfg(0, iad)`, with `iad = CFG.BIND_CURR`. -/
def phaseConfig (c : Cfg) : Phase → Byte
  | .one => cfgByte true c.bindCurr
  | .two => cfgByte false c.bindCurr

/-- R174: `temp_value = temp_raw / 256`, with `temp_raw = s16(raw)`. -/
def tempValue (raw : Half) : Rat := (s16 raw : Rat) / Config.tempDiv

/-- R176: `volt_value = volt_raw / 100`, unsigned. -/
def voltValue (raw : Half) : Rat := (raw.toNat : Rat) / Config.voltDiv

/-- R178: `curr_value = curr_raw × 2441 / (10000000 × CFG.SHUNT)`, with `curr_raw = s16(raw)`. -/
def currValue (raw : Half) (shunt : Rat) : Rat :=
  (s16 raw : Rat) * Config.currLsbNum / (Config.currLsbDen * shunt)

/-- The channel of an analog reading (R13, R181, R182). -/
def AdcChannel.channel : AdcChannel → Channel
  | .temp => .temp
  | .vdd => .vdd
  | .curr => .curr
  | .vad => .vad

/-- The device address of a family (R50). -/
def deviceAddr (c : Cfg) : Device → Addr
  | .gpio => c.addrGpio
  | .cnt => c.addrCnt
  | .adc => c.addrAdc

/-! ### Waits (R7, R58) -/

/-- The lower bound of a wait in milliseconds (R7, R238). -/
def WaitName.minMs (c : Cfg) : WaitName → Nat
  | .tCfg => c.tCfgMs
  | .tConvT => c.tConvTMs
  | .tConvV => c.tConvVMs
  | .tRecall => c.tRecallMs

/-- Whether a wait may last so many milliseconds: at least its lower bound, and at most T_WAIT_MAX where that is given (R7, R58,
R238: "a lower bound with no upper bound" where it is not). -/
def WaitName.admits (c : Cfg) (t : WaitName) (ms : Nat) : Bool :=
  decide (t.minMs c ≤ ms) && (match c.tWaitMaxMs with
    | some m => decide (ms ≤ m)
    | none => true)

/-- The wait an event is, if it is one. -/
def Event.waited? : Event → Option WaitName
  | .wait t => some t
  | .reset _ | .select _ | .write _ | .read _ | .publish _ _ => none

/-- The waits among some events, in order. -/
def waitsOf (es : List Event) : List WaitName := es.filterMap Event.waited?

/-- Whether some waits may last so many milliseconds each. -/
def admitsWaits (c : Cfg) : List WaitName → List Nat → Bool
  | [], [] => true
  | t :: ts, d :: ds => t.admits c d && admitsWaits c ts ds
  | [], _ :: _ => false
  | _ :: _, [] => false

/-- The sum of the lower bounds of the waits among some events (R241). -/
def waitTotal (c : Cfg) (es : List Event) : Nat := ((waitsOf es).map (WaitName.minMs c)).sum

/-! ### The sink (R7 `SINK_CONVERT`, R12, R36) -/

/-- What a sink whose numeric type is `F` holds. -/
inductive SinkValue (F : Type) where
  | bool (b : Bool)
  | num (x : F)
  | unavailable
deriving DecidableEq, Repr

/-- `SINK_CONVERT` is OPEN: "the model must take it as an argument" (R7). -/
def Value.toSink {F : Type} (sinkConvert : Rat → F) : Value → SinkValue F
  | .bool b => .bool b
  | .num q => .num (sinkConvert q)
  | .unavailable => .unavailable

/-- The publish an event is, if it is one. -/
def Event.published? : Event → Option (Channel × Value)
  | .publish ch v => some (ch, v)
  | .reset _ | .select _ | .write _ | .read _ | .wait _ => none

/-- A transport call (R51, R58), as opposed to a publish. -/
def Event.isTransport : Event → Bool
  | .publish _ _ => false
  | .reset _ | .select _ | .write _ | .read _ | .wait _ => true

/-- The sink history (R36): "the ordered list of `Publish(ch, val)` events the block has emitted since reset". -/
def State.sinkHistory (s : State) : List (Channel × Value) := s.events.filterMap Event.published?

end Sys2Proof.Machine
end

