-- ==== Sys2Proof/Machine/Flags.lean ====
section
/-! DEFINITION. Flag and status computations: the CRC comparison behind CRC_OK (40_crc.md R103, R104), the OUTCOME and FAULT
codes (60_exceptions.md R200, R204) and the STATUS word (10_state.md R31). -/

namespace Sys2Proof.Machine

/-- R103, R128: `CRC_OK <- ((CRC_ACC ^ CRC_OUT_XOR) = T)`. -/
def crcMatches (outXor acc trailer : Half) : Bool := acc ^^^ outXor == trailer

/-- R200: the code of each outcome. -/
def OutcomeCode.code : OutcomeCode → BitVec 4
  | .ok => 0#4
  | .busUnreachable => 1#4
  | .checksumMismatch => 2#4
  | .skippedUnbound => 3#4
  | .phase2Unreachable => 4#4

/-- R204: the code of each fault. -/
def FaultCode.code : FaultCode → BitVec 8
  | .illegalEncoding => 0x01#8
  | .latchUnwritten => 0x02#8
  | .configInvalid => 0x03#8

/-- R31: STATUS is the u32 `{16'b0, FAULT, OUTCOME, 1'b0, BUSY, PRESENT, CRC_OK}`. -/
def statusWord (s : State) : Word :=
  0#16 ++ s.fault ++ s.outcome ++ 0#1 ++ BitVec.ofBool s.busy ++ BitVec.ofBool s.present ++ BitVec.ofBool s.crcOk

end Sys2Proof.Machine
end

