-- ==== Sys2Proof/Machine/Ops.lean ====
section
/-! DEFINITION. The named operations every meaning is made of: events, the transport calls (20_memory.md R51 to R58), the
latches (10_state.md R24, R25), the bus lock (R66), raising a fault (60_exceptions.md R205) and reset (70_reset_and_hazards.md
R230 to R232). There is no return from a fault (R207). -/

namespace Sys2Proof.Machine

/-! ### Events and results -/

/-- Appends events to the history, in order (R15). -/
def State.emit (s : State) (es : List Event) : State := { s with events := s.events ++ es }

/-- `RESULT <- v` (R26). -/
def State.setResult (s : State) (v : Word) : State := { s with result := v }

/-- `outcome(code)` (R14): writes OUTCOME. -/
def State.setOutcome (s : State) (c : OutcomeCode) : State := { s with outcome := c.code }

/-- `raise Fault(code)` (R205): "FAULT <- code -- nothing else". The one operation by which a fault is taken. -/
def State.raiseFault (s : State) (c : FaultCode) : State := { s with fault := c.code }

/-! ### The transport (R51 to R58) -/

/-- The `n`-th answer from here on to a `BusReset`: the tape's, or beyond its end a free value (R57). -/
def State.resetAnswer (s : State) (n : Nat) : Bool :=
  s.resetTape[s.resetPos + n]?.getD (Config.freeReset (s.resetPos + n))

/-- The `n`-th answer from here on to a `BusRead`: the tape's, or beyond its end a free value (R57). -/
def State.readAnswer (s : State) (n : Nat) : Byte :=
  s.readTape[s.readPos + n]?.getD (Config.freeByte (s.readPos + n))

/-- The answers `lo, …, lo + n - 1` from here on to `BusRead`. -/
def State.readAnswers (s : State) (lo n : Nat) : List Byte := (List.range' lo n).map s.readAnswer

/-- `BusReset()` (R52): one event; its answer is `s.resetAnswer 0`. -/
def State.busReset (s : State) : State :=
  { s with events := s.events ++ [.reset (s.resetAnswer 0)], resetPos := s.resetPos + 1 }

/-- `BusSelect(a)` (R53). -/
def State.busSelect (s : State) (a : Addr) : State := s.emit [.select a]

/-- `BusWrite(v)` (R54). -/
def State.busWrite (s : State) (v : Byte) : State := s.emit [.write v]

/-- `BusRead()` (R55): one event; its answer is `s.readAnswer 0`. -/
def State.busRead (s : State) : State :=
  { s with events := s.events ++ [.read (s.readAnswer 0)], readPos := s.readPos + 1 }

/-- `Wait(t)` (R58): one event, which names its wait. How long it may last is `WaitName.admits`. -/
def State.busWait (s : State) (t : WaitName) : State := s.emit [.wait t]

/-! ### The CRC unit and the GPIO unit's snapshot -/

def State.setCrcAcc (s : State) (acc : Half) : State := { s with crcAcc := acc }
def State.setCrcOk (s : State) (ok : Bool) : State := { s with crcOk := ok }
def State.setRetained (s : State) (v : Byte) : State := { s with retained := v }
def State.setPresent (s : State) (p : Bool) : State := { s with present := p }

/-! ### The latches (R24, R25) -/

/-- `CNT_LATCH[k] <- b` (R152). -/
def State.loadCnt (s : State) (k : Fin 4) (b : Byte) : State := { s with cntLatch := s.cntLatch.set k (some b) }

/-- `CNT_LATCH[k] <- ⊥` for every k (R155). -/
def State.clearCnt (s : State) : State := { s with cntLatch := Vector.replicate 4 none }

/-- `SP[k] <- b` (R172). -/
def State.loadSp (s : State) (k : Fin 9) (b : Byte) : State := { s with sp := s.sp.set k (some b) }

/-- `SP[k] <- ⊥` for every k (R173). -/
def State.clearSp (s : State) : State := { s with sp := Vector.replicate 9 none }

/-- The counter value of the latch (R153), or none if a byte it reads is ⊥ (R154). -/
def State.cntValue (s : State) : Option Word :=
  match s.cntLatch[0], s.cntLatch[1], s.cntLatch[2], s.cntLatch[3] with
  | some b0, some b1, some b2, some b3 => some (assemble b0 b1 b2 b3)
  | _, _, _, _ => none

/-- The u16 `{SP[hi], SP[lo]}`, or none if one of the two bytes is ⊥ (R175, R177, R179). -/
def State.spHalf (s : State) (lo hi : Fin 9) : Option Half :=
  match s.sp[lo], s.sp[hi] with
  | some l, some h => some (halfOf l h)
  | _, _ => none

/-- `temp_raw`, `volt_raw` and `curr_raw` before sign (R174, R176, R178). -/
def State.tempRaw (s : State) : Option Half := s.spHalf 1 2
def State.voltRaw (s : State) : Option Half := s.spHalf 3 4
def State.currRaw (s : State) : Option Half := s.spHalf 5 6

/-- The value ADC_POLL publishes on a channel (R181, R182), or none if a byte it reads is ⊥. -/
def State.reading (s : State) : AdcChannel → Option Rat
  | .temp => s.tempRaw.map tempValue
  | .vdd => s.voltRaw.map voltValue
  | .vad => s.voltRaw.map voltValue
  | .curr => s.currRaw.map fun raw => currValue raw s.cfg.shunt

/-! ### The sequencer's fields -/

/-- Puts steps before those still to be taken. -/
def State.push (s : State) (ms : List Micro) : State := { s with todo := ms ++ s.todo }

/-- Replaces the steps still to be taken: the `goto` of R125, R156, R183. -/
def State.goto (s : State) (ms : List Micro) : State := { s with todo := ms }

/-- `SEQ <- (operation, step)` (R32). -/
def State.enter (s : State) (p : Position) : State := { s with seq := .running p }

/-- Writes a pseudocode variable of the poll operation in progress. -/
def State.setWork (s : State) (w : Work) : State := { s with work := w }

/-- A byte read from the bus goes to its place (R125, R156, R180). -/
def State.store (s : State) (v : Byte) : ReadDst → State
  | .discard => s
  | .snap => s.setWork { s.work with snap := v }
  | .trailLo => s.setWork { s.work with trailLo := v }
  | .trailHi => s.setWork { s.work with trailHi := v }
  | .cnt k => s.loadCnt k v
  | .sp k => s.loadSp k v

/-- `BUSY <- 1` and what a poll operation starts with (R125, R156, R183). SEQ leaves IDLE here, because R32 says
"`SEQ = IDLE` iff `BUSY = 0`": DEDUCED (notes/assumptions/4.md). -/
def State.beginPoll (s : State) (p : Position) (w : Work) (prog : List Micro) : State :=
  { s with busy := true, seq := .running p, work := w, todo := .acquire :: prog }

/-- END (R125, R156, R183): `release bus lock; SEQ <- IDLE; BUSY <- 0`. -/
def State.finish (s : State) : State :=
  { s with lock := .free, seq := .idle, busy := false, todo := [], work := Work.none }

/-! ### The bus lock as other users see it (R66) -/

/-- Another transport user takes the lock, if it is free. -/
def State.otherTake (s : State) : State := { s with lock := if s.lock = .free then .other else s.lock }

/-- That user releases it. -/
def State.otherRelease (s : State) : State := { s with lock := if s.lock = .other then .free else s.lock }

/-! ### Reset (R230 to R232) -/

/-- A reset while the block runs (R232): "No further transport call or publish of that operation happens, the bus lock is
released, and all state takes the values of rule R230". What is outside the block stays: CFG, the transport's answers, the
host's accesses and replies, the schedule, and the lock where another user holds it (notes/assumptions/14.md). -/
def State.resetBlock (s : State) : State :=
  { State.atReset s.cfg with
    lock := if s.lock = .other then .other else .free
    resetTape := s.resetTape
    resetPos := s.resetPos
    readTape := s.readTape
    readPos := s.readPos
    hostQ := s.hostQ
    hostReplies := s.hostReplies
    sched := s.sched }

/-! ### Host reads (R60 to R62) -/

/-- The value of a readable host register (R60), or none where R61 refuses the access. -/
def hostRead (s : State) (width offset : Nat) : Option Word :=
  if width = 32 then
    if offset = 0x00 then some (statusWord s)
    else if offset = 0x04 then some s.result
    else if offset = 0x08 then some (zext16 s.crcAcc)
    else if offset = 0x0C then some (zext8 s.retained)
    else none
  else none

/-- R60, R61: the one access that issues an operation is a 32-bit write at offset 0x10. -/
def isCmdWrite (width offset : Nat) : Bool := width == 32 && offset == 0x10

end Sys2Proof.Machine
end

