-- ==== Sys2Proof/Machine/Crc.lean ====
section
/-! DEFINITION. The CRC unit (40_crc.md): the fold R100 and the operations R101 to R103. -/

namespace Sys2Proof.Machine

/-- One of the eight rounds of R100: `if x[0] = 1: x <- (x >> 1) ^ CRC_POLY_R else: x <- x >> 1`. -/
def crcShift (polyR x : Half) : Half := if x.getLsbD 0 then (x >>> 1) ^^^ polyR else x >>> 1

/-- "repeat n times". -/
def crcShifts (polyR : Half) : Nat → Half → Half
  | 0, x => x
  | n + 1, x => crcShifts polyR n (crcShift polyR x)

/-- R100: `crc16_update(acc, b)`, with CRC_POLY_R the first argument. -/
def crc16Update (polyR acc : Half) (b : Byte) : Half := crcShifts polyR 8 (acc ^^^ b.setWidth 16)

/-- R100: `crc16(seed, bytes)`. -/
def crc16 (polyR seed : Half) (bytes : List Byte) : Half := bytes.foldl (crc16Update polyR) seed

/-- R101 CRC_INIT. -/
def execCrcInit (s : State) : Host.Outcome State Fault Refusal :=
  .next ((s.setCrcAcc s.cfg.crcSeed).setResult (zext16 s.cfg.crcSeed))

/-- R102 CRC_UPDATE. -/
def execCrcUpdate (byte : Byte) (s : State) : Host.Outcome State Fault Refusal :=
  let acc := crc16Update s.cfg.crcPolyR s.crcAcc byte
  .next ((s.setCrcAcc acc).setResult (zext16 acc))

/-- R103 CRC_CHECK. -/
def execCrcCheck (trailer : Half) (s : State) : Host.Outcome State Fault Refusal :=
  .next ((s.setCrcOk (crcMatches s.cfg.crcOutXor s.crcAcc trailer)).setResult (zext16 s.crcAcc))

end Sys2Proof.Machine
end

