-- ==== Sys2Proof/Machine/Wire.lean ====
section
/-! DEFINITION. The wire command bytes (30_encoding.md R87) and the analog configuration bytes (R88). Each is one `BusWrite` of
its byte; what R87 lists as following it is put before the steps the sequencer has still to take. -/

namespace Sys2Proof.Machine

/-- R87 WIRE_READ_REGISTER 0xF0: "target address 0x88, 0x00; then 1 read (snapshot) and 1 word read (trailer)". -/
def wireReadRegister (s : State) : State :=
  (s.busWrite 0xF0#8).push
    [.write 0x88#8, .write 0x00#8, .read .snap, .read .trailLo, .read .trailHi]

/-- R87 WIRE_READ_MEMORY_COUNTER 0xA5: "page address low, high (A: 0xC0, 0x01; B: 0xE0, 0x01); then 32 reads discarded and 4
reads (counter)". -/
def wireReadMemoryCounter (s : State) : State :=
  (s.busWrite 0xA5#8).push
    ([.write (pageLo s.work.sel), .write (pageHi s.work.sel)] ++ List.replicate Config.cntSkip (.read .discard) ++
      [.read (.cnt 0), .read (.cnt 1), .read (.cnt 2), .read (.cnt 3)])

/-- R87 WIRE_WRITE_SCRATCHPAD 0x4E: "page 0x00, then the config byte", that of the phase in progress (R170). -/
def wireWriteScratchpad (s : State) : State :=
  (s.busWrite 0x4E#8).push [.write 0x00#8, .wire (phaseConfig s.cfg s.work.phase)]

/-- R87 WIRE_CONVERT_T 0x44: followed by nothing. -/
def wireConvertT (s : State) : State := s.busWrite 0x44#8

/-- R87 WIRE_CONVERT_V 0xB4: followed by nothing. -/
def wireConvertV (s : State) : State := s.busWrite 0xB4#8

/-- R87 WIRE_RECALL_MEMORY 0xB8: "page 0x00". -/
def wireRecallMemory (s : State) : State := (s.busWrite 0xB8#8).push [.write 0x00#8]

/-- R87 WIRE_READ_SCRATCHPAD 0xBE: "page 0x00; then 9 reads". -/
def wireReadScratchpad (s : State) : State :=
  (s.busWrite 0xBE#8).push
    [.write 0x00#8, .read (.sp 0), .read (.sp 1), .read (.sp 2), .read (.sp 3), .read (.sp 4), .read (.sp 5),
      .read (.sp 6), .read (.sp 7), .read (.sp 8)]

/-- A byte of the sequencer's on the wire: its row's meaning; a byte that is no row of R87 or R88 is a plain `BusWrite` (R54). -/
def wireByte (b : Byte) (s : State) : State :=
  match decodeWire b with
  | .ok .wireReadRegister => wireReadRegister s
  | .ok .wireReadMemoryCounter => wireReadMemoryCounter s
  | .ok .wireWriteScratchpad => wireWriteScratchpad s
  | .ok .wireConvertT => wireConvertT s
  | .ok .wireConvertV => wireConvertV s
  | .ok .wireRecallMemory => wireRecallMemory s
  | .ok .wireReadScratchpad => wireReadScratchpad s
  | _ => s.busWrite b

def execWireReadRegister (s : State) : Host.Outcome State Fault Refusal := .next (wireReadRegister s)
def execWireReadMemoryCounter (s : State) : Host.Outcome State Fault Refusal := .next (wireReadMemoryCounter s)
def execWireWriteScratchpad (s : State) : Host.Outcome State Fault Refusal := .next (wireWriteScratchpad s)
def execWireConvertT (s : State) : Host.Outcome State Fault Refusal := .next (wireConvertT s)
def execWireConvertV (s : State) : Host.Outcome State Fault Refusal := .next (wireConvertV s)
def execWireRecallMemory (s : State) : Host.Outcome State Fault Refusal := .next (wireRecallMemory s)
def execWireReadScratchpad (s : State) : Host.Outcome State Fault Refusal := .next (wireReadScratchpad s)

/-- R88 CFG_VDD_IAD0: the configuration byte 0x08 on the bus. -/
def execCfgVddIad0 (s : State) : Host.Outcome State Fault Refusal := .next (s.busWrite 0x08#8)
/-- R88 CFG_VDD_IAD1: 0x09. -/
def execCfgVddIad1 (s : State) : Host.Outcome State Fault Refusal := .next (s.busWrite 0x09#8)
/-- R88 CFG_VAD_IAD0: 0x00. -/
def execCfgVadIad0 (s : State) : Host.Outcome State Fault Refusal := .next (s.busWrite 0x00#8)
/-- R88 CFG_VAD_IAD1: 0x01. -/
def execCfgVadIad1 (s : State) : Host.Outcome State Fault Refusal := .next (s.busWrite 0x01#8)

end Sys2Proof.Machine
end

