-- ==== Sys2Proof/Machine/Sequencer.lean ====
section
/-! DEFINITION. The three transaction sequencers, one step at a time: the programs are the pseudocode of 41_gpio_edge.md R125,
42_counter.md R156 and 43_analog.md R180 to R183, line by line, and `microStep` takes the first step still to be taken. -/

namespace Sys2Proof.Machine

/-! ### The programs -/

/-- `UNAV(code)` of R125 (R130) up to END. -/
def gpioUnavailable (c : OutcomeCode) : List Micro :=
  .enter (.gpioPoll .unavailable) :: channels.map .publishUnavailable ++ [.outcome c, .finish]

/-- The course a poll operation takes after a failure (R126, R128, R156, R182, R184). -/
def failProgram : Failure → List Micro
  | .gpioUnreachable => gpioUnavailable .busUnreachable
  | .gpioChecksum => gpioUnavailable .checksumMismatch
  | .cntUnreachable => [.outcome .busUnreachable, .finish]
  | .adcUnreachable => [.outcome .busUnreachable, .finish]
  | .adcPhase2 => [.outcome .phase2Unreachable, .finish]

/-- GPIO_POLL after the lock is acquired (R125 to R129). -/
def gpioProgram : List Micro :=
  [.enter (.gpioPoll .busCheck), .initialReset .gpioUnreachable,
    .enter (.gpioPoll .transact), .select .gpio, .wire 0xF0#8,
    .enter (.gpioPoll .validate), .validate,
    .enter (.gpioPoll .publish)] ++ channels.map .publishEdge ++ [.retain, .outcome .ok, .finish]

/-- CNT_POLL of a bound counter after the lock is acquired (R156). -/
def cntProgram : List Micro :=
  [.enter (.cntPoll .busCheck), .initialReset .cntUnreachable,
    .enter (.cntPoll .transact), .select .cnt, .wire 0xA5#8,
    .enter (.cntPoll .publish), .publishCounter, .outcome .ok, .finish]

/-- Step 2 of R180, "which runs only when `first` (phase 1) holds". -/
def convertTProgram : Phase → List Micro
  | .one => [.enter (.adcPoll .convertT), .reset, .select .adc, .wire 0x44#8, .wait .tConvT]
  | .two => []

/-- The failure of a phase's initial reset (R182, R184). -/
def phaseFailure : Phase → Failure
  | .one => .adcUnreachable
  | .two => .adcPhase2

/-- `MR(c, first)` (R180). The configuration byte is part of what follows 0x4E on the wire (R87). -/
def measureProgram (ph : Phase) : List Micro :=
  [.setPhase ph, .enter (.adcPoll .writeSp), .initialReset (phaseFailure ph), .select .adc, .wire 0x4E#8, .wait .tCfg] ++
    convertTProgram ph ++
    [.enter (.adcPoll .convertV), .reset, .select .adc, .wire 0xB4#8, .wait .tConvV,
      .enter (.adcPoll .recall), .reset, .select .adc, .wire 0xB8#8, .wait .tRecall,
      .enter (.adcPoll .readSp), .reset, .select .adc, .wire 0xBE#8]

/-- A publish that happens iff its channel is bound (R181). -/
def publishIf (bound : Bool) (ch : AdcChannel) : List Micro := if bound then [.publishReading ch] else []

/-- Phase 2, "only if `CFG.BIND_VAD`" (R182). -/
def phase2Program (c : Cfg) : List Micro :=
  if c.bindVad then measureProgram .two ++ [.publishReading .vad] else []

/-- ADC_POLL after the lock is acquired (R183). -/
def adcProgram (c : Cfg) : List Micro :=
  measureProgram .one ++
    (publishIf c.bindTemp .temp ++ publishIf c.bindVdd .vdd ++ publishIf c.bindCurr .curr ++ [.outcome .ok]) ++
    phase2Program c ++ [.finish]

/-! ### One step -/

/-- `p <- BusReset(); PRESENT <- p; if not p: goto` the failure's course (R125, R156, R180). -/
def initialReset (f : Failure) (s : State) : State :=
  let s' := s.busReset.setPresent (s.resetAnswer 0)
  if s.resetAnswer 0 then s' else s'.goto (failProgram f)

/-- The CRC-16 over "{command, address-low, address-high, status byte}" (R128, R104). -/
def gpioCrc (c : Cfg) (snapshot : Byte) : Half := crc16 c.crcPolyR c.crcSeed [0xF0#8, 0x88#8, 0x00#8, snapshot]

/-- VALIDATE (R128): CRC_ACC and CRC_OK are written whether the trailer matches or not. -/
def validate (s : State) : State :=
  let acc := gpioCrc s.cfg s.work.snap
  let ok := crcMatches s.cfg.crcOutXor acc (halfOf s.work.trailLo s.work.trailHi)
  let s' := (s.setCrcAcc acc).setCrcOk ok
  if ok then s' else s'.goto (failProgram .gpioChecksum)

/-- The publish of CNT_POLL (R156). A ⊥ latch byte, which no run reaches here, faults (R24; notes/assumptions/11.md). -/
def publishCounter (s : State) : State :=
  match s.cntValue with
  | some v => s.emit [.publish (counterChannel s.work.sel) (.num (v.toNat : Rat))]
  | none => (s.raiseFault .latchUnwritten).finish

/-- A publish of ADC_POLL (R181, R182). A ⊥ scratchpad byte, which no run reaches here, faults (R25; notes/assumptions/11.md). -/
def publishReading (ch : AdcChannel) (s : State) : State :=
  match s.reading ch with
  | some q => s.emit [.publish ch.channel (.num q)]
  | none => (s.raiseFault .latchUnwritten).finish

/-- The step `m`, taken in the state `s` that no longer lists it. -/
def runMicro (m : Micro) (s : State) : State :=
  match m with
  | .acquire => if s.lock = .other then s.push [.acquire] else { s with lock := .mine }
  | .enter p => s.enter p
  | .setPhase ph => s.setWork { s.work with phase := ph }
  | .initialReset f => initialReset f s
  | .reset => s.busReset
  | .select d => s.busSelect (deviceAddr s.cfg d)
  | .wire b => wireByte b s
  | .write b => s.busWrite b
  | .read dst => s.busRead.store (s.readAnswer 0) dst
  | .wait t => s.busWait t
  | .validate => validate s
  | .publishEdge i => s.emit (edgeEvent s.work.snap (edges s.work.snap s.retained s.cfg.bindGpio) i)
  | .retain => s.setRetained s.work.snap
  | .publishUnavailable i => s.emit (unavailableEvent s.cfg.bindGpio i)
  | .publishCounter => publishCounter s
  | .publishReading ch => publishReading ch s
  | .outcome c => s.setOutcome c
  | .finish => s.finish

/-- The first step still to be taken. Nothing happens where there is none, or where it waits for the lock (R66). -/
def microStep (s : State) : State :=
  match s.todo with
  | [] => s
  | m :: rest => runMicro m (s.goto rest)

/-- `n` steps. -/
def microSteps : Nat → State → State
  | 0, s => s
  | n + 1, s => microSteps n (microStep s)

/-- More steps than any poll operation has. -/
def pollFuel : Nat := 128

/-! ### The beginnings of the poll operations -/

/-- R125: the first line. -/
def beginGpioPoll (s : State) : State := s.beginPoll (.gpioPoll .busCheck) Work.none gpioProgram

/-- R156: "if not cnt_bound(sel): OUTCOME <- SKIPPED_UNBOUND; end -- no event, no lock, BUSY stays 0". -/
def beginCntPoll (sel : Counter) (s : State) : State :=
  if counterBound s.cfg sel then s.beginPoll (.cntPoll .busCheck) { Work.none with sel := sel } cntProgram
  else s.setOutcome .skippedUnbound

/-- R183: the first line. -/
def beginAdcPoll (s : State) : State := s.beginPoll (.adcPoll .writeSp) Work.none (adcProgram s.cfg)

end Sys2Proof.Machine
end

