-- ==== Sys2Proof/Machine/Analog.lean ====
section
/-! DEFINITION. The analog unit's operations (43_analog.md R171, R172, R173, R175, R177, R179, R183). -/

namespace Sys2Proof.Machine

/-- R171 ADC_CONFIG: `RESULT <- zext_32(cfg(vdd, iad))`. -/
def execAdcConfig (vdd iad : Bool) (s : State) : Host.Outcome State Fault Refusal :=
  .next (s.setResult (zext8 (cfgByte vdd iad)))

/-- R172 SP_LOAD: `SP[k] <- b`; "ILLEGAL_ENCODING if … k > 8". -/
def execSpLoad (k : Byte) (byte : Byte) (s : State) : Host.Outcome State Fault Refusal :=
  if h : k.toNat < 9 then .next (s.loadSp ⟨k.toNat, h⟩ byte) else .next (s.raiseFault .illegalEncoding)

/-- R173 SP_CLEAR. -/
def execSpClear (s : State) : Host.Outcome State Fault Refusal := .next s.clearSp

/-- R175 ADC_TEMP: `RESULT <- sext_32(temp_raw)`, or LATCH_UNWRITTEN. -/
def execAdcTemp (s : State) : Host.Outcome State Fault Refusal :=
  match s.tempRaw with
  | some raw => .next (s.setResult (sext16 raw))
  | none => .next (s.raiseFault .latchUnwritten)

/-- R177 ADC_VOLT: `RESULT <- zext_32(volt_raw)`, or LATCH_UNWRITTEN. -/
def execAdcVolt (s : State) : Host.Outcome State Fault Refusal :=
  match s.voltRaw with
  | some raw => .next (s.setResult (zext16 raw))
  | none => .next (s.raiseFault .latchUnwritten)

/-- R179 ADC_CURR: `RESULT <- sext_32(curr_raw)`, unscaled, or LATCH_UNWRITTEN. -/
def execAdcCurr (s : State) : Host.Outcome State Fault Refusal :=
  match s.currRaw with
  | some raw => .next (s.setResult (sext16 raw))
  | none => .next (s.raiseFault .latchUnwritten)

/-- R183 ADC_POLL: one analog poll cycle from its acceptance to END. -/
def execAdcPoll (s : State) : Host.Outcome State Fault Refusal := .next (microSteps pollFuel (beginAdcPoll s))

end Sys2Proof.Machine
end

