-- ==== Sys2Proof/Machine/Counter.lean ====
section
/-! DEFINITION. The counter unit's operations (42_counter.md R151, R152, R154, R155, R156). -/

namespace Sys2Proof.Machine

/-- R151 CNT_PAGE: `RESULT <- zext_32(page(sel))`. -/
def execCntPage (sel : Counter) (s : State) : Host.Outcome State Fault Refusal := .next (s.setResult (zext16 (page sel)))

/-- R152 CNT_LOAD: `CNT_LATCH[k] <- b`. -/
def execCntLoad (k : Fin 4) (byte : Byte) (s : State) : Host.Outcome State Fault Refusal := .next (s.loadCnt k byte)

/-- R154 CNT_ASSEMBLE: LATCH_UNWRITTEN if a latch byte is ⊥, else the assembled value. -/
def execCntAssemble (s : State) : Host.Outcome State Fault Refusal :=
  match s.cntValue with
  | some v => .next (s.setResult v)
  | none => .next (s.raiseFault .latchUnwritten)

/-- R155 CNT_CLEAR. -/
def execCntClear (s : State) : Host.Outcome State Fault Refusal := .next s.clearCnt

/-- R156 CNT_POLL: one counter's transaction from its acceptance to END, or SKIPPED_UNBOUND at once. -/
def execCntPoll (sel : Counter) (s : State) : Host.Outcome State Fault Refusal :=
  if counterBound s.cfg sel then .next (microSteps pollFuel (beginCntPoll sel s)) else .next (beginCntPoll sel s)

end Sys2Proof.Machine
end

