-- ==== Sys2Proof/Machine/Gpio.lean ====
section
/-! DEFINITION. The GPIO unit's operations (41_gpio_edge.md R121, R123, R124, R125). -/

namespace Sys2Proof.Machine

/-- R121 GPIO_DECODE: `RESULT <- zext_32(~s & 0xFF)`. -/
def execGpioDecode (snapshot : Byte) (s : State) : Host.Outcome State Fault Refusal :=
  .next (s.setResult (zext8 (~~~snapshot)))

/-- R123 EDGE_DETECT. -/
def execEdgeDetect (snapshot : Byte) (s : State) : Host.Outcome State Fault Refusal :=
  let m := edges snapshot s.retained s.cfg.bindGpio
  .next (((s.emit (edgeEvents snapshot m)).setRetained snapshot).setResult (zext8 m))

/-- R124 GPIO_FAIL. -/
def execGpioFail (s : State) : Host.Outcome State Fault Refusal :=
  .next (s.emit (unavailableEvents s.cfg.bindGpio))

/-- R125 GPIO_POLL: one poll cycle from its acceptance to END; where another user holds the bus lock, the operation waits for
it with BUSY = 1 (R66). -/
def execGpioPoll (s : State) : Host.Outcome State Fault Refusal := .next (microSteps pollFuel (beginGpioPoll s))

end Sys2Proof.Machine
end

