-- ==== Sys2Proof/Machine/Dispatch.lean ====
section
/-! DEFINITION. The meaning of each instruction: one arm for each constructor of `Instr`. -/

namespace Sys2Proof.Machine

def exec (i : Instr) (s : State) : Host.Outcome State Fault Refusal :=
  match i with
  -- operation words (30_encoding.md R85)
  | .crcInit => Sys2Proof.Machine.execCrcInit s
  | .crcUpdate byte => Sys2Proof.Machine.execCrcUpdate byte s
  | .crcCheck trailer => Sys2Proof.Machine.execCrcCheck trailer s
  | .gpioDecode snapshot => Sys2Proof.Machine.execGpioDecode snapshot s
  | .edgeDetect snapshot => Sys2Proof.Machine.execEdgeDetect snapshot s
  | .gpioFail => Sys2Proof.Machine.execGpioFail s
  | .gpioPoll => Sys2Proof.Machine.execGpioPoll s
  | .cntPage sel => Sys2Proof.Machine.execCntPage sel s
  | .cntLoad k byte => Sys2Proof.Machine.execCntLoad k byte s
  | .cntAssemble => Sys2Proof.Machine.execCntAssemble s
  | .cntClear => Sys2Proof.Machine.execCntClear s
  | .cntPoll sel => Sys2Proof.Machine.execCntPoll sel s
  | .adcConfig vdd iad => Sys2Proof.Machine.execAdcConfig vdd iad s
  | .spLoad k byte => Sys2Proof.Machine.execSpLoad k byte s
  | .spClear => Sys2Proof.Machine.execSpClear s
  | .adcTemp => Sys2Proof.Machine.execAdcTemp s
  | .adcVolt => Sys2Proof.Machine.execAdcVolt s
  | .adcCurr => Sys2Proof.Machine.execAdcCurr s
  | .adcPoll => Sys2Proof.Machine.execAdcPoll s
  -- wire command bytes (R87)
  | .wireReadRegister => Sys2Proof.Machine.execWireReadRegister s
  | .wireReadMemoryCounter => Sys2Proof.Machine.execWireReadMemoryCounter s
  | .wireWriteScratchpad => Sys2Proof.Machine.execWireWriteScratchpad s
  | .wireConvertT => Sys2Proof.Machine.execWireConvertT s
  | .wireConvertV => Sys2Proof.Machine.execWireConvertV s
  | .wireRecallMemory => Sys2Proof.Machine.execWireRecallMemory s
  | .wireReadScratchpad => Sys2Proof.Machine.execWireReadScratchpad s
  -- analog configuration bytes (R88)
  | .cfgVddIad0 => Sys2Proof.Machine.execCfgVddIad0 s
  | .cfgVddIad1 => Sys2Proof.Machine.execCfgVddIad1 s
  | .cfgVadIad0 => Sys2Proof.Machine.execCfgVadIad0 s
  | .cfgVadIad1 => Sys2Proof.Machine.execCfgVadIad1 s

end Sys2Proof.Machine
end

