-- ==== Sys2Proof/Machine/Issue.lean ====
section
/-! DEFINITION. The turns of the agents: the host's next access (20_memory.md R60 to R62, R67; 60_exceptions.md R205 to R208) and
the sequencer's next step. -/

namespace Sys2Proof.Machine

/-- An operation whose poll cycle is only begun, so that others may move between its events; any other operation completes in
one step (R30). -/
def beginInstr (i : Instr) (s : State) : Host.Outcome State Fault Refusal :=
  match i with
  | .gpioPoll => .next (beginGpioPoll s)
  | .cntPoll sel => .next (beginCntPoll sel s)
  | .adcPoll => .next (beginAdcPoll s)
  | .crcInit | .crcUpdate _ | .crcCheck _ | .gpioDecode _ | .edgeDetect _ | .gpioFail
  | .cntPage _ | .cntLoad _ _ | .cntAssemble | .cntClear
  | .adcConfig _ _ | .spLoad _ _ | .spClear | .adcTemp | .adcVolt | .adcCurr
  | .wireReadRegister | .wireReadMemoryCounter | .wireWriteScratchpad | .wireConvertT | .wireConvertV
  | .wireRecallMemory | .wireReadScratchpad | .cfgVddIad0 | .cfgVddIad1 | .cfgVadIad0 | .cfgVadIad1 => exec i s

/-- How far an accepted operation is taken in the step that accepts it. -/
inductive Extent where
  /-- to its END (R68: operations take effect one after another) -/
  | whole
  /-- a poll operation only to its beginning -/
  | begun
deriving DecidableEq, Repr

/-- An accepted CMD write of `w` (R205): decode, which may raise ILLEGAL_ENCODING, then the operation with its own check of
the latch bytes. -/
def issue (x : Extent) (w : Word) (s : State) : Host.Outcome State Fault Refusal :=
  match decode (.cmd w) with
  | .error _ => .next (s.raiseFault .illegalEncoding)
  | .ok i => match x with
    | .whole => exec i s
    | .begun => beginInstr i s

/-- A host read (R60, R62): its value goes to the host and no state of the block changes. -/
def answerRead (width offset : Nat) (s : State) : Host.Outcome State Fault Refusal :=
  match hostRead s width offset with
  | some v => .next { s with hostReplies := s.hostReplies ++ [(offset, v)] }
  | none => .refused (.hostAccess (.read width offset))

/-- The host's turn by the schedule. A CMD write while FAULT ≠ 0 or BUSY = 1 is not accepted and stays the host's next access
(R67, R206, R208: FAULT first, then BUSY). The host's accesses are made in order: a read queued behind such a write waits for it,
and a read that the host makes while its write is blocked is queued before the write. DESIGN CHOICE (notes/assumptions/21.md):
R67 calls the host stuck, R206 says that its reads still work. -/
def hostTurn (s : State) : Host.Outcome State Fault Refusal :=
  match s.hostQ with
  | [] => .next s
  | .read width offset :: rest => answerRead width offset { s with hostQ := rest }
  | .write width offset v :: rest =>
    if isCmdWrite width offset then
      if s.fault ≠ 0#8 then .next s
      else if s.busy then .next s
      else issue .begun v { s with hostQ := rest }
    else .refused (.hostAccess (.write width offset v))

/-- The host's move where the schedule names nobody and no poll operation is in progress. A CMD write while FAULT ≠ 0 is
stuck: no other agent is to move (R206). Reads queued behind it are not made: DESIGN CHOICE (notes/assumptions/21.md). -/
def hostAlone (s : State) : Host.Outcome State Fault Refusal :=
  match s.hostQ with
  | [] => .next s
  | .read width offset :: rest => answerRead width offset { s with hostQ := rest }
  | .write width offset v :: rest =>
    if isCmdWrite width offset then
      if s.fault ≠ 0#8 then .fault .hostStuck
      else issue .whole v { s with hostQ := rest }
    else .refused (.hostAccess (.write width offset v))

/-- The sequencer's turn. Where its next step puts a wire byte on the bus, the byte is decoded and run as the instruction it
is; nothing happens where no poll operation is in progress, or where it waits for the lock. -/
def blockTurn (s : State) : Host.Outcome State Fault Refusal :=
  match s.todo with
  | .wire b :: rest => match decode (.wire b) with
    | .ok i => exec i (s.goto rest)
    | .error _ => .next (microStep s)
  | _ => .next (microStep s)

/-- The move a scheduled turn stands for. -/
def takeTurn (t : Turn) (s : State) : Host.Outcome State Fault Refusal :=
  match t with
  | .host => hostTurn s
  | .block => blockTurn s
  | .reset => .next s.resetBlock
  | .lockTake => .next s.otherTake
  | .lockRelease => .next s.otherRelease

/-- Where the schedule names nobody: a poll operation in progress goes on; otherwise the host moves. -/
def defaultTurn (s : State) : Host.Outcome State Fault Refusal := if s.busy then blockTurn s else hostAlone s

/-- The block as it must be for the host's next CMD write to be accepted (R67): not faulted, not busy; and the schedule
empty. -/
def State.accepting (s : State) : State :=
  { s with
    fault := 0#8, busy := false, seq := .idle, todo := [], work := Work.none, sched := []
    lock := if s.lock = .mine then .free else s.lock }

/-- Where in SEQ the sequencers put a wire byte on the bus (R87, "emitted by"). -/
def wirePosition (b : Byte) : Position :=
  if b = 0xF0#8 then .gpioPoll .transact
  else if b = 0xA5#8 then .cntPoll .transact
  else if b = 0x44#8 then .adcPoll .convertT
  else if b = 0xB4#8 then .adcPoll .convertV
  else if b = 0xB8#8 then .adcPoll .recall
  else if b = 0xBE#8 then .adcPoll .readSp
  else .adcPoll .writeSp

/-- An operation word placed as the host's next access, a CMD write, which the next step accepts. -/
def State.placeCmd (s : State) (w : Word) : State :=
  { s.accepting with hostQ := .write 32 0x10 w :: s.hostQ }

/-- A wire byte placed as the sequencer's next step, in a poll operation that holds the lock, with the schedule empty. -/
def State.placeWire (s : State) (b : Byte) : State :=
  { s with
    busy := true, seq := .running (wirePosition b), lock := .mine, sched := []
    todo := .wire b :: (if s.todo.isEmpty then [.finish] else s.todo) }

end Sys2Proof.Machine
end

