-- ==== Sys2Proof/Machine/Step.lean ====
section
/-! DEFINITION. One step of the machine, and where the next instruction comes from (notes/assumptions/5.md, 9.md and 13.md). -/

namespace Sys2Proof.Machine

/-- One step: the turn the schedule names, or where it names none the default one. -/
def step (s : State) : Host.Outcome State Fault Refusal :=
  match s.sched with
  | [] => defaultTurn s
  | t :: ts => takeTurn t { s with sched := ts }

/-- `s` with the instruction of these bits placed where `step` takes its next one: an operation word (32 bits) as the host's
next CMD write, a byte on the wire (8 bits) as the sequencer's next step. -/
def State.withFetchWord (s : State) (nbits w : Nat) : State :=
  if nbits = 8 then s.placeWire (BitVec.ofNat 8 w) else s.placeCmd (BitVec.ofNat 32 w)

end Sys2Proof.Machine
end

