-- ==== Sys2Proof/Machine/Assembler.lean ====
section
/-! DEFINITION. The assembler's operand forms (30_encoding.md R89), the pseudo-instructions (R90) and the words an assembled line
stands for (R91). Text is a list of characters. What R89 leaves open (spaces, letter case) is notes/assumptions/18.md. -/

namespace Sys2Proof.Machine

/-! ### Pseudo-instructions (R90) -/

/-- `CRC_BYTES b0, ..., bn`: `CRC_INIT; CRC_UPDATE b0; ...; CRC_UPDATE bn`. -/
def pseudoCrcBytes (bs : List Byte) : List Instr := .crcInit :: bs.map .crcUpdate

/-- `GPIO_CRC s`: `CRC_INIT; CRC_UPDATE 0xF0; CRC_UPDATE 0x88; CRC_UPDATE 0x00; CRC_UPDATE s`. -/
def pseudoGpioCrc (s : Byte) : List Instr :=
  [.crcInit, .crcUpdate 0xF0#8, .crcUpdate 0x88#8, .crcUpdate 0x00#8, .crcUpdate s]

/-- `CNT_CYCLE`: `CNT_POLL A; CNT_POLL B` (R158). -/
def pseudoCntCycle : List Instr := [.cntPoll .a, .cntPoll .b]

/-- `CNT_BYTES b0, b1, b2, b3`. -/
def pseudoCntBytes (b0 b1 b2 b3 : Byte) : List Instr := [.cntLoad 0 b0, .cntLoad 1 b1, .cntLoad 2 b2, .cntLoad 3 b3]

/-- `SP_BYTES b0, ..., b8`. -/
def pseudoSpBytes (bs : Vector Byte 9) : List Instr :=
  (List.finRange 9).map fun k => .spLoad (BitVec.ofNat 8 k.val) bs[k]

/-! ### Operands (R89) -/

/-- Why a line is not assembled. -/
inductive AsmError where
  | unknownMnemonic
  | operandCount
  /-- neither a number in decimal or `0x` hex nor a name the operand form allows -/
  | badOperand
  /-- "A value out of range is an assembly error, never truncated" (R89) -/
  | outOfRange
deriving DecidableEq, Repr

/-- The value of a digit below `base`. -/
def digit (base : Nat) (c : Char) : Option Nat :=
  let n := c.toNat
  let v := if 48 ≤ n ∧ n ≤ 57 then n - 48 else if 65 ≤ n ∧ n ≤ 70 then n - 55 else if 97 ≤ n ∧ n ≤ 102 then n - 87 else base
  if v < base then some v else none

/-- The value of the digits read so far, continued. -/
def digits (base : Nat) : Nat → List Char → Option Nat
  | acc, [] => some acc
  | acc, c :: cs => match digit base c with
    | some d => digits base (acc * base + d) cs
    | none => none

/-- R89: "numbers in decimal or `0x` hex". -/
def number : List Char → Except AsmError Nat
  | [] => .error .badOperand
  | '0' :: 'x' :: c :: cs => match digits 16 0 (c :: cs) with
    | some n => .ok n
    | none => .error .badOperand
  | c :: cs => match digits 10 0 (c :: cs) with
    | some n => .ok n
    | none => .error .badOperand

/-- A number below `bound`, never truncated. -/
def numberBelow (bound : Nat) (t : List Char) : Except AsmError Nat :=
  match number t with
  | .ok n => if n < bound then .ok n else .error .outOfRange
  | .error e => .error e

/-- A byte operand. -/
def byteArg (t : List Char) : Except AsmError Byte := (numberBelow 256 t).map (BitVec.ofNat 8)

/-- `k` in 0..3 (CNT_LOAD). -/
def cntIndexArg (t : List Char) : Except AsmError (Fin 4) := (numberBelow 4 t).map (Fin.ofNat 4)

/-- `k` in 0..8 (SP_LOAD). -/
def spIndexArg (t : List Char) : Except AsmError Byte := (numberBelow 9 t).map (BitVec.ofNat 8)

/-- `A|B`: "A encodes sel 0, B sel 1". -/
def selArg (t : List Char) : Except AsmError Counter :=
  if t = ['A'] then .ok .a else if t = ['B'] then .ok .b else .error .badOperand

/-- `VDD|VAD`. -/
def vddArg (t : List Char) : Except AsmError Bool :=
  if t = ['V', 'D', 'D'] then .ok true else if t = ['V', 'A', 'D'] then .ok false else .error .badOperand

/-- `IAD0|IAD1`. -/
def iadArg (t : List Char) : Except AsmError Bool :=
  if t = ['I', 'A', 'D', '1'] then .ok true else if t = ['I', 'A', 'D', '0'] then .ok false else .error .badOperand

/-- Several byte operands. -/
def byteArgs : List (List Char) → Except AsmError (List Byte)
  | [] => .ok []
  | t :: ts => match byteArg t, byteArgs ts with
    | .ok b, .ok bs => .ok (b :: bs)
    | .error e, _ => .error e
    | _, .error e => .error e

/-! ### Mnemonics -/

/-- What a mnemonic stands for: how many operands it takes, if fixed, and what it assembles to. -/
structure AsmRow where
  name  : String
  build : List (List Char) → Except AsmError (List Instr)

/-- An operation without operands. -/
def noArgs (i : Instr) : List (List Char) → Except AsmError (List Instr)
  | [] => .ok [i]
  | _ :: _ => .error .operandCount

/-- An operation of one operand. -/
def oneArg {α : Type} (arg : List Char → Except AsmError α) (f : α → List Instr) :
    List (List Char) → Except AsmError (List Instr)
  | [t] => (arg t).map f
  | _ => .error .operandCount

/-- An operation of two operands. -/
def twoArgs {α β : Type} (arg1 : List Char → Except AsmError α) (arg2 : List Char → Except AsmError β)
    (f : α → β → Instr) : List (List Char) → Except AsmError (List Instr)
  | [t1, t2] => match arg1 t1, arg2 t2 with
    | .ok a, .ok b => .ok [f a b]
    | .error e, _ => .error e
    | _, .error e => .error e
  | _ => .error .operandCount

/-- A pseudo-instruction of `n` byte operands. -/
def bytesOfCount (n : Nat) (f : List Byte → List Instr) (ts : List (List Char)) : Except AsmError (List Instr) :=
  if ts.length = n then (byteArgs ts).map f else .error .operandCount

/-- R89: the operations' operand forms, the CRC and GPIO units. -/
def asmRowsCrcGpio : List AsmRow :=
  [ ⟨"CRC_INIT", noArgs .crcInit⟩,
    ⟨"CRC_UPDATE", oneArg byteArg fun b => [.crcUpdate b]⟩,
    ⟨"CRC_CHECK", oneArg (numberBelow 65536) fun n => [.crcCheck (BitVec.ofNat 16 n)]⟩,
    ⟨"GPIO_DECODE", oneArg byteArg fun b => [.gpioDecode b]⟩,
    ⟨"EDGE_DETECT", oneArg byteArg fun b => [.edgeDetect b]⟩,
    ⟨"GPIO_FAIL", noArgs .gpioFail⟩,
    ⟨"GPIO_POLL", noArgs .gpioPoll⟩ ]

/-- R89: the counter and analog units. -/
def asmRowsCntAdc : List AsmRow :=
  [ ⟨"CNT_PAGE", oneArg selArg fun c => [.cntPage c]⟩,
    ⟨"CNT_LOAD", twoArgs cntIndexArg byteArg .cntLoad⟩,
    ⟨"CNT_ASSEMBLE", noArgs .cntAssemble⟩,
    ⟨"CNT_CLEAR", noArgs .cntClear⟩,
    ⟨"CNT_POLL", oneArg selArg fun c => [.cntPoll c]⟩,
    ⟨"ADC_CONFIG", twoArgs vddArg iadArg .adcConfig⟩,
    ⟨"SP_LOAD", twoArgs spIndexArg byteArg .spLoad⟩,
    ⟨"SP_CLEAR", noArgs .spClear⟩,
    ⟨"ADC_TEMP", noArgs .adcTemp⟩,
    ⟨"ADC_VOLT", noArgs .adcVolt⟩,
    ⟨"ADC_CURR", noArgs .adcCurr⟩,
    ⟨"ADC_POLL", noArgs .adcPoll⟩ ]

/-- R90: the pseudo-instructions. -/
def asmRowsPseudo : List AsmRow :=
  [ ⟨"CRC_BYTES", fun ts => if ts.isEmpty then .error .operandCount else (byteArgs ts).map pseudoCrcBytes⟩,
    ⟨"GPIO_CRC", oneArg byteArg pseudoGpioCrc⟩,
    ⟨"CNT_CYCLE", fun ts => if ts.isEmpty then .ok pseudoCntCycle else .error .operandCount⟩,
    ⟨"CNT_BYTES", bytesOfCount 4 fun bs =>
      pseudoCntBytes (bs.getD 0 0#8) (bs.getD 1 0#8) (bs.getD 2 0#8) (bs.getD 3 0#8)⟩,
    ⟨"SP_BYTES", bytesOfCount 9 fun bs => pseudoSpBytes (Vector.ofFn fun k => bs.getD k.val 0#8)⟩ ]

/-- Every mnemonic of R89 and R90. -/
def asmRows : List AsmRow := asmRowsCrcGpio ++ asmRowsCntAdc ++ asmRowsPseudo

/-! ### Lines -/

/-- A space or a tab. -/
def isBlank (c : Char) : Bool := c == ' ' || c == '\t'

/-- The text without the blanks at its two ends. -/
def trimmed (t : List Char) : List Char := ((t.dropWhile isBlank).reverse.dropWhile isBlank).reverse

/-- The parts of a text between commas. -/
def commaParts : List Char → List (List Char)
  | [] => [[]]
  | c :: cs => if c = ',' then [] :: commaParts cs
    else match commaParts cs with
      | [] => [[c]]
      | p :: ps => (c :: p) :: ps

/-- R89: "mnemonic then operands separated by commas". -/
def assembleOp (mnemonic : List Char) (operands : List (List Char)) : Except AsmError (List Instr) :=
  match asmRows.find? fun r => r.name.toList == mnemonic with
  | some r => r.build operands
  | none => .error .unknownMnemonic

/-- R89: "One operation per line"; "`;` starts a comment". A line with no operation stands for none. -/
def assembleLine (line : List Char) : Except AsmError (List Instr) :=
  let body := trimmed (line.takeWhile (· != ';'))
  if body.isEmpty then .ok []
  else
    let rest := trimmed (body.dropWhile (!isBlank ·))
    assembleOp (body.takeWhile (!isBlank ·)) (if rest.isEmpty then [] else (commaParts rest).map trimmed)

/-- R91: the codes of an assembled line. -/
def assembleCodes (line : List Char) : Except AsmError (List Code) := (assembleLine line).map (List.map encode)

end Sys2Proof.Machine
end

