-- ==== Sys2Proof/Safety.lean ====
section
/-! DEFINITION. What counts as a good state, in the terms the statements use: a block ready for an operation, and the invariant
that every step keeps. -/

namespace Sys2Proof.Machine

/-- No poll operation is in progress and the bus lock is free: the state in which an accepted poll operation runs at once
(20_memory.md R66, R67). -/
structure State.Ready (s : State) : Prop where
  busy : s.busy = false
  seq  : s.seq = .idle
  lock : s.lock = .free
  todo : s.todo = []
  work : s.work = Work.none

/-- The steps of a poll operation that holds the lock: END comes last and only there, and the lock is not acquired again
(R66, R71). -/
def script : List Micro → Bool
  | [] => false
  | [.finish] => true
  | m :: ms => m != .finish && m != .acquire && script ms

/-- The steps of a poll operation that waits for the lock: it acquires it before anything else (R66). -/
def waitingScript : List Micro → Bool
  | .acquire :: ms => script ms
  | _ => false

/-- No poll operation is in progress: `SEQ = IDLE` iff `BUSY = 0` (R32), and the lock is not held (R66). -/
structure State.Idle (s : State) : Prop where
  busy : s.busy = false
  seq  : s.seq = .idle
  lock : s.lock ≠ .mine
  todo : s.todo = []
  work : s.work = Work.none

/-- A poll operation is in progress: BUSY = 1 while it waits for or holds the lock (R30), and the block is not faulted (R204,
R210). -/
structure State.Running (s : State) : Prop where
  busy  : s.busy = true
  seq   : s.seq ≠ .idle
  fault : s.fault = 0#8
  todo  : (s.lock = .mine ∧ script s.todo = true) ∨ (s.lock ≠ .mine ∧ waitingScript s.todo = true)

/-- The invariant. -/
structure State.Inv (s : State) : Prop where
  /-- R32, R30, R66 -/
  sequencer : s.Idle ∨ s.Running
  /-- R200: "5-15 reserved, never written" -/
  outcome : s.outcome.toNat ≤ 4
  /-- R204: "other reserved, never written" -/
  fault : s.fault.toNat ≤ 3
  /-- R231: an ill-formed CFG leaves the block faulted -/
  config : s.cfg.wf = false → s.fault ≠ 0#8

end Sys2Proof.Machine
end

