-- ==== Sys2Proof/Certificates/Slice0/Obligations.lean ====
section
/-! DEFINITION. The statements. The definitions under `Sys2Proof.Claims` write out what the spec's rules say in their own terms
(R85's table, R123's and R129's publishes, R127's and R180's wire sequences, R230's values), apart from the meanings. -/

namespace Sys2Proof.Claims
open Sys2Proof.Machine

/-- R85: match and mask of the 19 operations. -/
def opTable : List (Word × Word) :=
  [ (0x00000001#32, 0xFFFFFFFF#32), (0x00000002#32, 0xFFFF00FF#32), (0x00000003#32, 0xFF0000FF#32),
    (0x00000010#32, 0xFFFF00FF#32), (0x00000011#32, 0xFFFF00FF#32), (0x00000012#32, 0xFFFFFFFF#32),
    (0x00000013#32, 0xFFFFFFFF#32), (0x00000020#32, 0xFFFFFEFF#32), (0x00000021#32, 0xFFFC00FF#32) ] ++
  [ (0x00000022#32, 0xFFFFFFFF#32), (0x00000023#32, 0xFFFFFFFF#32), (0x00000024#32, 0xFFFFFEFF#32),
    (0x00000030#32, 0xFFFFFCFF#32), (0x00000031#32, 0xFF0000FF#32), (0x00000032#32, 0xFFFFFFFF#32),
    (0x00000033#32, 0xFFFFFFFF#32), (0x00000034#32, 0xFFFFFFFF#32), (0x00000035#32, 0xFFFFFFFF#32),
    (0x00000036#32, 0xFFFFFFFF#32) ]

/-- R82: "the word is legal iff `(w & mask) = match` for the row of its OPC, and, for SP_LOAD, `B ≤ 8`". -/
def Legal (w : Word) : Prop :=
  ∃ r ∈ opTable, w &&& r.2 = r.1 ∧ (r.1 = 0x00000031#32 → (w.extractLsb' 16 8).toNat ≤ 8)

/-- The exceptions line of an operation's rule: a word of that OPC with a bit set that the mask does not leave free raises
ILLEGAL_ENCODING and changes nothing else. -/
def ReservedBitsFault (pat mask : Word) : Prop :=
  ∀ (x : Extent) (w : Word) (s : State), w.extractLsb' 0 8 = pat.extractLsb' 0 8 → w &&& mask ≠ pat →
    issue x w s = .next { s with fault := 0x01#8 }

/-- R100 in numbers: the fold of one byte, with the feedback constant `poly`. -/
def foldNumber (poly acc b : Nat) : Nat := (fun x => if x % 2 = 1 then (x / 2) ^^^ poly else x / 2)^[8] (acc ^^^ b)

/-- The values R7 gives the parameters of the CRC unit. -/
def DefaultCrc (c : Cfg) : Prop := c.crcSeed = 0xFFFF#16 ∧ c.crcPolyR = 0xA001#16 ∧ c.crcOutXor = 0x0000#16

/-- The values R7 gives the minimum waits. -/
def DefaultWaits (c : Cfg) : Prop := c.tCfgMs = 10 ∧ c.tConvTMs = 10 ∧ c.tConvVMs = 100 ∧ c.tRecallMs = 10

/-- R11: `s16(v) = v` if `v < 0x8000`, else `v - 0x10000`, of the u16 with these two bytes. -/
def signed (lo hi : Byte) : Int :=
  let v : Nat := lo.toNat + 256 * hi.toNat
  if v < 0x8000 then (v : Int) else (v : Int) - 0x10000

/-- The u16 with these two bytes, as a number. -/
def unsigned (lo hi : Byte) : Nat := lo.toNat + 256 * hi.toNat

/-- R123, R129: in ascending i, each bound channel whose bit differs publishes its new state. -/
def changedPublishes (s r bind : Byte) : List Event :=
  (List.finRange 8).filterMap fun (i : Fin 8) =>
    if bind.getLsbD i && (s.getLsbD i != r.getLsbD i) then some (.publish (.gpio i) (.bool (!s.getLsbD i))) else none

/-- R124, R130: in ascending i, each bound channel publishes `Unavailable`. -/
def unavailablePublishes (bind : Byte) : List Event :=
  (List.finRange 8).filterMap fun (i : Fin 8) => if bind.getLsbD i then some (.publish (.gpio i) .unavailable) else none

/-- The 0/1 mask of the bound channels whose bit differs, as RESULT holds it (R123). -/
def changedMask (s r bind : Byte) : Word := ((s ^^^ r) &&& bind).setWidth 32

/-- R127: the wire sequence of the GPIO transaction after its reset. -/
def gpioTransaction (a : Addr) (s lo hi : Byte) : List Event :=
  [.select a, .write 0xF0#8, .write 0x88#8, .write 0x00#8, .read s, .read lo, .read hi]

/-- R128: the CRC over command, address low, address high and status byte. -/
def gpioCheck (c : Cfg) (s : Byte) : Half := crc16 c.crcPolyR c.crcSeed [0xF0#8, 0x88#8, 0x00#8, s]

/-- R128: the CRC of the snapshot to be read next matches the trailer to be read after it. -/
def TrailerMatches (s : State) : Prop :=
  gpioCheck s.cfg (s.readAnswer 0) ^^^ s.cfg.crcOutXor = s.readAnswer 2 ++ s.readAnswer 1

/-- R156, R157: the wire sequence of one counter's transaction after its reset, with its 36 reads. -/
def counterTransaction (s : State) (sel : Counter) : List Event :=
  [.select s.cfg.addrCnt, .write 0xA5#8, .write (match sel with | .a => 0xC0#8 | .b => 0xE0#8), .write 0x01#8] ++
    (s.readAnswers 0 36).map .read

/-- R153: `b0 + 2^8 × b1 + 2^16 × b2 + 2^24 × b3`. -/
def littleEndian (b0 b1 b2 b3 : Byte) : Nat := b0.toNat + 2^8 * b1.toNat + 2^16 * b2.toNat + 2^24 * b3.toNat

/-- R150: the channel and the binding of a counter. -/
def counterSink (c : Cfg) : Counter → Channel × Bool
  | .a => (.cntA, c.bindCntA)
  | .b => (.cntB, c.bindCntB)

/-- R88, R170: the configuration byte of a phase. -/
def configByte (vdd iad : Bool) : Byte :=
  match vdd, iad with
  | true, false => 0x08#8
  | true, true => 0x09#8
  | false, false => 0x00#8
  | false, true => 0x01#8

/-- One step of R180 up to its wait: reset, select, the bytes written, the wait. -/
def analogStep (p : Bool) (a : Addr) (bytes : List Byte) (w : List WaitName) : List Event :=
  [.reset p, .select a] ++ bytes.map .write ++ w.map .wait

/-- R180: the events of `MR(c, first)`, with the answers from the `k`-th reset and the `r`-th read on. -/
def measureEvents (s : State) (first : Bool) (k r : Nat) : List Event :=
  let a := s.cfg.addrAdc
  let k2 := if first then k + 2 else k + 1
  analogStep (s.resetAnswer k) a [0x4E#8, 0x00#8, configByte first s.cfg.bindCurr] [.tCfg] ++
    (if first then analogStep (s.resetAnswer (k + 1)) a [0x44#8] [.tConvT] else []) ++
    analogStep (s.resetAnswer k2) a [0xB4#8] [.tConvV] ++
    analogStep (s.resetAnswer (k2 + 1)) a [0xB8#8, 0x00#8] [.tRecall] ++
    analogStep (s.resetAnswer (k2 + 2)) a [0xBE#8, 0x00#8] [] ++ (s.readAnswers r 9).map .read

/-- R180, step 5: the nine bytes read, from the `r`-th read on. -/
def scratchpad (s : State) (r : Nat) : Vector (Option Byte) 9 :=
  #v[some (s.readAnswer r), some (s.readAnswer (r + 1)), some (s.readAnswer (r + 2)), some (s.readAnswer (r + 3)),
    some (s.readAnswer (r + 4)), some (s.readAnswer (r + 5)), some (s.readAnswer (r + 6)), some (s.readAnswer (r + 7)),
    some (s.readAnswer (r + 8))]

/-- A publish that happens iff its channel is bound. -/
def ifBound (bound : Bool) (ch : Channel) (q : Rat) : List Event := if bound then [.publish ch (.num q)] else []

/-- R181 with R174, R176 and R178: the publishes of phase 1. -/
def phase1Publishes (s : State) : List Event :=
  ifBound s.cfg.bindTemp .temp ((signed (s.readAnswer 1) (s.readAnswer 2) : Rat) / 256) ++
    ifBound s.cfg.bindVdd .vdd ((unsigned (s.readAnswer 3) (s.readAnswer 4) : Rat) / 100) ++
    ifBound s.cfg.bindCurr .curr
      ((signed (s.readAnswer 5) (s.readAnswer 6) : Rat) * 2441 / (10000000 * s.cfg.shunt))

/-- R182: the publish of phase 2. -/
def phase2Publish (s : State) : List Event :=
  [.publish .vad (.num ((unsigned (s.readAnswer 12) (s.readAnswer 13) : Rat) / 100))]

/-- The three poll operations (R85). -/
def IsPoll (i : Instr) : Prop := i = .gpioPoll ∨ (∃ sel, i = .cntPoll sel) ∨ i = .adcPoll

/-- R60: the readable registers. -/
def readable (s : State) : List (Nat × Word) :=
  [ (0x00, 0#16 ++ (s.fault ++ (s.outcome ++ (0#1 ++ (BitVec.ofBool s.busy ++ (BitVec.ofBool s.present ++
      BitVec.ofBool s.crcOk)))))),
    (0x04, s.result), (0x08, 0#16 ++ s.crcAcc), (0x0C, 0#24 ++ s.retained) ]

/-- R60, R61: the accesses that exist. -/
def Accepted : HostAccess → Prop
  | .read width offset => width = 32 ∧ (offset = 0x00 ∨ offset = 0x04 ∨ offset = 0x08 ∨ offset = 0x0C)
  | .write width offset _ => width = 32 ∧ offset = 0x10

/-- The values after reset of the elements R230 lists, FAULT by R9 and R231. That CRC_ACC is CRC_SEED for every seed is the model's
(R233 says the seed, R230 gives 0xFFFF; notes/assumptions/15.md). -/
def ResetValues (c : Cfg) (t : State) : Prop :=
  t.crcAcc = c.crcSeed ∧ (c.crcSeed = 0xFFFF#16 → t.crcAcc = 0xFFFF#16) ∧ t.crcOk = false ∧ t.retained = 0xFF#8 ∧ (∀ k : Fin 4, t.cntLatch[k] = none) ∧
    (∀ k : Fin 9, t.sp[k] = none) ∧ t.result = 0#32 ∧ t.present = false ∧ t.outcome = 0#4 ∧
    t.fault = (if 0 < c.shunt ∧ c.cntValidate = false then 0x00#8 else 0x03#8) ∧ t.busy = false ∧ t.seq = .idle ∧
    t.lock ≠ .mine ∧ t.sinkHistory = []

/-- R125: the step of GPIO_POLL in which an event of it happens. -/
def gpioStepOf : Event → GpioStep → Prop
  | .reset _, st => st = .busCheck
  | .select _, st => st = .transact
  | .write _, st => st = .transact
  | .read _, st => st = .transact
  | .publish _ (.bool _), st => st = .publish
  | .publish _ .unavailable, st => st = .unavailable
  | .publish _ (.num _), _ => False
  | .wait _, _ => False

/-- One operation after another, each from the state the one before it answered. -/
def Runs : List Instr → State → State → Prop
  | [], s, t => s = t
  | i :: is, s, t => ∃ u, exec i s = .next u ∧ Runs is u t

end Sys2Proof.Claims

open Sys2Proof Sys2Proof.Machine Sys2Proof.Claims

/-! ## Encoding -/

/-- R85, R87, R88, R91: words written out from the spec's tables decode to what they stand for. -/
def Obligations.SpecWordsDecode : Prop :=
  decode (.cmd 0x00000001#32) = .ok .crcInit ∧ decode (.cmd 0x0000AB02#32) = .ok (.crcUpdate 0xAB#8) ∧
  decode (.cmd 0x004EF303#32) = .ok (.crcCheck 0x4EF3#16) ∧ decode (.cmd 0x0000F711#32) = .ok (.edgeDetect 0xF7#8) ∧
  decode (.cmd 0x0002AB21#32) = .ok (.cntLoad 2 0xAB#8) ∧ decode (.cmd 0x00000124#32) = .ok (.cntPoll .b) ∧
  decode (.cmd 0x00000330#32) = .ok (.adcConfig true true) ∧ decode (.cmd 0x00080031#32) = .ok (.spLoad 8#8 0#8) ∧
  decode (.wire 0xF0#8) = .ok .wireReadRegister ∧ decode (.wire 0x09#8) = .ok .cfgVddIad1

/-- R83, R84: a legal word names an operation; every other word raises ILLEGAL_ENCODING and changes nothing else. -/
def Obligations.WordIsLegalOrFaults : Prop :=
  ∀ w : Word, (Legal w → ∃ i, decode (.cmd w) = .ok i) ∧
    (¬ Legal w → ∀ (x : Extent) (s : State), issue x w s = .next { s with fault := 0x01#8 })

/-- No bit of an encoding is dropped: every well-formed instruction is decoded from its own encoding. -/
def Obligations.DecodeOfEncode : Prop := ∀ i : Instr, i.wf = true → decode (encode i) = .ok i

/-- No two codes mean one instruction: what decodes to an instruction is that instruction's encoding. -/
def Obligations.EncodeOfDecode : Prop := ∀ (c : Code) (i : Instr), decode c = .ok i → encode i = c ∧ i.wf = true

/-- The layout the spec derives in R91: `w = zext_32(OPC) | (A << 8) | (B << 16)`, C = 0, with the rule's three examples. -/
def Obligations.AssembledWordLayout : Prop :=
  (∀ opc a b : Byte, cmdWord opc a b = opc.setWidth 32 ||| (a.setWidth 32 <<< 8) ||| (b.setWidth 32 <<< 16)) ∧
  assembleCodes "CNT_LOAD 2, 0xAB".toList = .ok [.cmd 0x0002AB21#32] ∧
  assembleCodes "CRC_CHECK 0x4EF3".toList = .ok [.cmd 0x004EF303#32] ∧
  assembleCodes "ADC_CONFIG VDD, IAD1".toList = .ok [.cmd 0x00000330#32]

/-! ## CRC unit -/

/-- The fold of R100, of one byte in numbers and over a list. The constant 0xA001 and the LSB-first order are inferences the spec
marks as its own (R100, D5, D6; notes/assumptions/15.md); the constant is the parameter CRC_POLY_R. -/
def Obligations.CrcFoldsBytesLsbFirst : Prop :=
  (∀ (poly acc : Half) (b : Byte), (crc16Update poly acc b).toNat = foldNumber poly.toNat acc.toNat b.toNat) ∧
  (∀ (acc : Half) (b : Byte), (crc16Update 0xA001#16 acc b).toNat = foldNumber 0xA001 acc.toNat b.toNat) ∧
  (∀ poly acc : Half, crc16 poly acc [] = acc) ∧
  (∀ (poly acc : Half) (b : Byte) (bs : List Byte),
    crc16 poly acc (b :: bs) = crc16 poly (crc16Update poly acc b) bs)

/-- The three properties of R106, which the spec derives from R100: (a) the affine law, (b) the residue, (c) the check value
(with the constant 0xA001: notes/assumptions/15.md). -/
def Obligations.CrcAffineResidueAndCheckValue : Prop :=
  (∀ (poly s : Half) (x y : List Byte), x.length = y.length →
    crc16 poly s x ^^^ crc16 poly s y = crc16 poly 0#16 (List.zipWith (· ^^^ ·) x y)) ∧
  (∀ (s : Half) (data : List Byte) (t : Half),
    crc16 0xA001#16 s (data ++ [t.extractLsb' 0 8, t.extractLsb' 8 8]) = 0x0000#16 ↔ t = crc16 0xA001#16 s data) ∧
  crc16 0xA001#16 0xFFFF#16 [0x31#8, 0x32#8, 0x33#8, 0x34#8, 0x35#8, 0x36#8, 0x37#8, 0x38#8, 0x39#8] = 0x4B37#16

/-- R101 CRC_INIT, for every CRC_SEED and for R7's. -/
def Obligations.CrcInitSeedsAccumulator : Prop :=
  (∀ s : State, exec .crcInit s = .next { s with crcAcc := s.cfg.crcSeed, result := 0#16 ++ s.cfg.crcSeed }) ∧
  (∀ s : State, DefaultCrc s.cfg → exec .crcInit s = .next { s with crcAcc := 0xFFFF#16, result := 0x0000FFFF#32 }) ∧
  decode (.cmd 0x00000001#32) = .ok .crcInit ∧ ReservedBitsFault 0x00000001#32 0xFFFFFFFF#32

/-- CRC_UPDATE, with the fold of R100 in numbers, for every CRC_POLY_R and for R7's (notes/assumptions/15.md). -/
def Obligations.CrcUpdateFoldsByte : Prop :=
  (∀ (s : State) (b : Byte), exec (.crcUpdate b) s =
    .next { s with
      crcAcc := BitVec.ofNat 16 (foldNumber s.cfg.crcPolyR.toNat s.crcAcc.toNat b.toNat)
      result := BitVec.ofNat 32 (foldNumber s.cfg.crcPolyR.toNat s.crcAcc.toNat b.toNat) }) ∧
  (∀ (s : State) (b : Byte), DefaultCrc s.cfg → exec (.crcUpdate b) s =
    .next { s with
      crcAcc := BitVec.ofNat 16 (foldNumber 0xA001 s.crcAcc.toNat b.toNat)
      result := BitVec.ofNat 32 (foldNumber 0xA001 s.crcAcc.toNat b.toNat) }) ∧
  (∀ b : Byte, decode (.cmd (0x00000002#32 ||| (b.setWidth 32 <<< 8))) = .ok (.crcUpdate b)) ∧
  ReservedBitsFault 0x00000002#32 0xFFFF00FF#32

/-- R103 CRC_CHECK, for every CRC_OUT_XOR and for R7's: the accumulator is compared with the trailer and is unchanged. -/
def Obligations.CrcCheckComparesTrailer : Prop :=
  (∀ (s : State) (t : Half), exec (.crcCheck t) s =
    .next { s with crcOk := decide (s.crcAcc ^^^ s.cfg.crcOutXor = t), result := 0#16 ++ s.crcAcc }) ∧
  (∀ (s : State) (t : Half), DefaultCrc s.cfg → exec (.crcCheck t) s =
    .next { s with crcOk := decide (s.crcAcc = t), result := 0#16 ++ s.crcAcc }) ∧
  (∀ a b : Byte, decode (.cmd (0x00000003#32 ||| ((b ++ a : Half).setWidth 32 <<< 8))) = .ok (.crcCheck (b ++ a))) ∧
  ReservedBitsFault 0x00000003#32 0xFF0000FF#32

/-- The pseudo-instruction CRC_BYTES (R90): CRC_INIT and then one CRC_UPDATE for each byte leave the CRC of those bytes. -/
def Obligations.CrcBytesComputesCrc : Prop :=
  ∀ (bs : List Byte) (s : State), ∃ t, Runs (pseudoCrcBytes bs) s t ∧ t.crcAcc = crc16 s.cfg.crcPolyR s.cfg.crcSeed bs ∧
    t = { s with crcAcc := t.crcAcc, result := 0#16 ++ t.crcAcc }

/-! ## GPIO unit -/

/-- The edge function of R122, which the spec derives from R120: bit i of the change mask is 1 iff channel i is bound and its
active state differs. -/
def Obligations.EdgeMaskMarksBoundChanges : Prop :=
  ∀ (s r bind : Byte) (i : Fin 8), (active s i = true ↔ s.getLsbD i = false) ∧
    ((edges s r bind).getLsbD i = true ↔ bind.getLsbD i = true ∧ active s i ≠ active r i)

/-- R121 GPIO_DECODE. -/
def Obligations.GpioDecodeInvertsSnapshot : Prop :=
  (∀ (s : State) (v : Byte), exec (.gpioDecode v) s = .next { s with result := 0#24 ++ (v ^^^ 0xFF#8) }) ∧
  (∀ v : Byte, decode (.cmd (0x00000010#32 ||| (v.setWidth 32 <<< 8))) = .ok (.gpioDecode v)) ∧
  ReservedBitsFault 0x00000010#32 0xFFFF00FF#32

/-- R123 EDGE_DETECT. -/
def Obligations.EdgeDetectPublishesChanges : Prop :=
  (∀ (s : State) (v : Byte), exec (.edgeDetect v) s =
    .next { s with
      events := s.events ++ changedPublishes v s.retained s.cfg.bindGpio
      retained := v
      result := changedMask v s.retained s.cfg.bindGpio }) ∧
  (∀ v : Byte, decode (.cmd (0x00000011#32 ||| (v.setWidth 32 <<< 8))) = .ok (.edgeDetect v)) ∧
  ReservedBitsFault 0x00000011#32 0xFFFF00FF#32

/-- R124 GPIO_FAIL. -/
def Obligations.GpioFailMarksBoundUnavailable : Prop :=
  (∀ s : State, exec .gpioFail s = .next { s with events := s.events ++ unavailablePublishes s.cfg.bindGpio }) ∧
  decode (.cmd 0x00000012#32) = .ok .gpioFail ∧ ReservedBitsFault 0x00000012#32 0xFFFFFFFF#32

/-- R126: a failed initial reset marks every bound channel unavailable, leaves RETAINED, CRC_ACC and CRC_OK, and makes
no other transport call. -/
def Obligations.GpioPollBusUnreachable : Prop :=
  ∀ s : State, s.Ready → s.resetAnswer 0 = false →
    exec .gpioPoll s = .next { s with
      present := false
      outcome := 1#4
      resetPos := s.resetPos + 1
      events := s.events ++ [.reset false] ++ unavailablePublishes s.cfg.bindGpio }

/-- R127, R202: a trailer that does not match (the VALIDATE and UNAVAILABLE steps of R128 and R130). -/
def Obligations.GpioPollChecksumMismatch : Prop :=
  ∀ s : State, s.Ready → s.resetAnswer 0 = true →
    ¬ TrailerMatches s →
    exec .gpioPoll s = .next { s with
      present := true
      crcAcc := gpioCheck s.cfg (s.readAnswer 0)
      crcOk := false
      outcome := 2#4
      resetPos := s.resetPos + 1
      readPos := s.readPos + 3
      events := s.events ++ [.reset true] ++
        gpioTransaction s.cfg.addrGpio (s.readAnswer 0) (s.readAnswer 1) (s.readAnswer 2) ++
        unavailablePublishes s.cfg.bindGpio }

/-- R127: a trailer that matches (the VALIDATE and PUBLISH steps of R128 and R129). -/
def Obligations.GpioPollPublishesValidSnapshot : Prop :=
  ∀ s : State, s.Ready → s.resetAnswer 0 = true →
    TrailerMatches s →
    exec .gpioPoll s = .next { s with
      present := true
      crcAcc := gpioCheck s.cfg (s.readAnswer 0)
      crcOk := true
      retained := s.readAnswer 0
      outcome := 0#4
      resetPos := s.resetPos + 1
      readPos := s.readPos + 3
      events := s.events ++ [.reset true] ++
        gpioTransaction s.cfg.addrGpio (s.readAnswer 0) (s.readAnswer 1) (s.readAnswer 2) ++
        changedPublishes (s.readAnswer 0) s.retained s.cfg.bindGpio }

/-- Each event of a GPIO_POLL cycle happens in the step of SEQ that R125 gives it (one step of the poll operation at a time, with
nobody else moving: notes/assumptions/5.md, 17.md). -/
def Obligations.GpioPollEventsInTheirStep : Prop :=
  ∀ (s t u : State) (k : Nat) (e : Event), s.Ready → s.sched = [] → s.hostQ = [] →
    Sys2Proof.core.run k (beginGpioPoll s) = .next t → step t = .next u → u.events = t.events ++ [e] →
    ∃ st, t.seq = .running (.gpioPoll st) ∧ gpioStepOf e st

/-- The idempotence the spec derives in R133: a second successful cycle with the same snapshot publishes nothing. -/
def Obligations.GpioPollRepeatedSnapshotIsSilent : Prop :=
  ∀ s t u : State, s.Ready → exec .gpioPoll s = .next t → t.outcome = 0#4 → exec .gpioPoll t = .next u → u.outcome = 0#4 →
    u.retained = t.retained → u.sinkHistory = t.sinkHistory

/-- R131: however many cycles fail, the next successful one compares with the last validated snapshot. -/
def Obligations.GpioEdgesSkipFailedCycles : Prop :=
  ∀ (n : Nat) (s t u : State), s.Ready →
    (∃ path : Nat → State, path 0 = s ∧ path n = t ∧
      ∀ k < n, exec .gpioPoll (path k) = .next (path (k + 1)) ∧ (path (k + 1)).outcome ≠ 0#4) →
    exec .gpioPoll t = .next u → u.outcome = 0#4 →
    t.retained = s.retained ∧ ∃ v : Byte, u.retained = v ∧
      u.sinkHistory = t.sinkHistory ++ (changedPublishes v s.retained s.cfg.bindGpio).filterMap Event.published?

/-! ## Counter unit -/

/-- R151 CNT_PAGE. -/
def Obligations.CntPageSelectsPage : Prop :=
  (∀ s : State, exec (.cntPage .a) s = .next { s with result := 0x000001C0#32 } ∧
    exec (.cntPage .b) s = .next { s with result := 0x000001E0#32 }) ∧
  decode (.cmd 0x00000020#32) = .ok (.cntPage .a) ∧ decode (.cmd 0x00000120#32) = .ok (.cntPage .b) ∧
  ReservedBitsFault 0x00000020#32 0xFFFFFEFF#32

/-- R152 CNT_LOAD. -/
def Obligations.CntLoadWritesLatchByte : Prop :=
  (∀ (s : State) (k : Fin 4) (b : Byte), ∃ latch,
    exec (.cntLoad k b) s = .next { s with cntLatch := latch } ∧
    ∀ j : Fin 4, latch[j] = if j = k then some b else s.cntLatch[j]) ∧
  (∀ (k : Fin 4) (b : Byte),
    decode (.cmd (0x00000021#32 ||| (b.setWidth 32 <<< 8) ||| (BitVec.ofNat 32 k.val <<< 16))) = .ok (.cntLoad k b)) ∧
  ReservedBitsFault 0x00000021#32 0xFFFC00FF#32

/-- R153, R154 CNT_ASSEMBLE. -/
def Obligations.CntAssembleLittleEndianOrFaults : Prop :=
  (∀ (s : State) (b0 b1 b2 b3 : Byte), s.cntLatch = #v[some b0, some b1, some b2, some b3] →
    exec .cntAssemble s = .next { s with result := BitVec.ofNat 32 (littleEndian b0 b1 b2 b3) } ∧
    littleEndian b0 b1 b2 b3 ≤ 4294967295) ∧
  (∀ s : State, (∃ k : Fin 4, s.cntLatch[k] = none) → exec .cntAssemble s = .next { s with fault := 0x02#8 }) ∧
  decode (.cmd 0x00000022#32) = .ok .cntAssemble ∧ ReservedBitsFault 0x00000022#32 0xFFFFFFFF#32

/-- R155 CNT_CLEAR; a CNT_ASSEMBLE right after it faults. -/
def Obligations.CntClearEmptiesLatch : Prop :=
  (∀ s : State, exec .cntClear s = .next { s with cntLatch := #v[none, none, none, none] }) ∧
  (∀ s t : State, exec .cntClear s = .next t → exec .cntAssemble t = .next { t with fault := 0x02#8 }) ∧
  decode (.cmd 0x00000023#32) = .ok .cntClear ∧ ReservedBitsFault 0x00000023#32 0xFFFFFFFF#32

/-- R156: an unbound counter: no event, no lock, BUSY stays 0. -/
def Obligations.CntPollUnboundSkips : Prop :=
  ∀ (s : State) (sel : Counter), (counterSink s.cfg sel).2 = false →
    exec (.cntPoll sel) s = .next { s with outcome := 3#4 }

/-- R156, R201: a failed initial reset: nothing is published and the latch is unchanged. -/
def Obligations.CntPollBusUnreachable : Prop :=
  ∀ (s : State) (sel : Counter), s.Ready → (counterSink s.cfg sel).2 = true → s.resetAnswer 0 = false →
    exec (.cntPoll sel) s = .next { s with
      present := false
      outcome := 1#4
      resetPos := s.resetPos + 1
      events := s.events ++ [.reset false] }

/-- R156, R157: a counter that answers: 32 bytes discarded, four assembled and published, and no byte read after them. -/
def Obligations.CntPollPublishesCounter : Prop :=
  ∀ (s : State) (sel : Counter), s.Ready → (counterSink s.cfg sel).2 = true → s.resetAnswer 0 = true →
    exec (.cntPoll sel) s = .next { s with
      present := true
      outcome := 0#4
      cntLatch := #v[some (s.readAnswer 32), some (s.readAnswer 33), some (s.readAnswer 34), some (s.readAnswer 35)]
      resetPos := s.resetPos + 1
      readPos := s.readPos + 36
      events := s.events ++ [.reset true] ++ counterTransaction s sel ++
        [.publish (counterSink s.cfg sel).1 (.num
          (littleEndian (s.readAnswer 32) (s.readAnswer 33) (s.readAnswer 34) (s.readAnswer 35) : Rat))] }

/-! ## Analog unit -/

/-- R174, R176, R178: the three decodes of the scratchpad, with their ranges. -/
def Obligations.ScratchpadDecodes : Prop :=
  ∀ (s : State) (l h : Byte),
    (s.sp[1] = some l → s.sp[2] = some h →
      s.reading .temp = some ((signed l h : Rat) / 256) ∧
      -128 ≤ (signed l h : Rat) / 256 ∧ (signed l h : Rat) / 256 ≤ 127.99609375) ∧
    (s.sp[3] = some l → s.sp[4] = some h →
      s.reading .vdd = some ((unsigned l h : Rat) / 100) ∧ s.reading .vad = some ((unsigned l h : Rat) / 100) ∧
      0 ≤ (unsigned l h : Rat) / 100 ∧ (unsigned l h : Rat) / 100 ≤ 655.35) ∧
    (s.sp[5] = some l → s.sp[6] = some h →
      s.reading .curr = some ((signed l h : Rat) * 0.0002441 / s.cfg.shunt))

/-- R171 ADC_CONFIG. -/
def Obligations.AdcConfigBuildsByte : Prop :=
  (∀ (s : State) (vdd iad : Bool), exec (.adcConfig vdd iad) s =
    .next { s with result := 0#24 ++ configByte vdd iad }) ∧
  (∀ vdd iad : Bool, decode (.cmd (0x00000030#32 ||| ((BitVec.ofBool vdd).setWidth 32 <<< 8) |||
    ((BitVec.ofBool iad).setWidth 32 <<< 9))) = .ok (.adcConfig vdd iad)) ∧
  ReservedBitsFault 0x00000030#32 0xFFFFFCFF#32

/-- R172 SP_LOAD: an index above 8 faults. -/
def Obligations.SpLoadWritesScratchpadByte : Prop :=
  (∀ (s : State) (k : Fin 9) (b : Byte), ∃ sp',
    exec (.spLoad (BitVec.ofNat 8 k.val) b) s = .next { s with sp := sp' } ∧
    ∀ j : Fin 9, sp'[j] = if j = k then some b else s.sp[j]) ∧
  (∀ (k : Fin 9) (b : Byte), decode (.cmd (0x00000031#32 ||| (b.setWidth 32 <<< 8) |||
    (BitVec.ofNat 32 k.val <<< 16))) = .ok (.spLoad (BitVec.ofNat 8 k.val) b)) ∧
  (∀ (x : Extent) (w : Word) (s : State), w.extractLsb' 0 8 = 0x31#8 → 8 < (w.extractLsb' 16 8).toNat →
    issue x w s = .next { s with fault := 0x01#8 }) ∧
  ReservedBitsFault 0x00000031#32 0xFF0000FF#32

/-- R173 SP_CLEAR; a decode right after it faults. -/
def Obligations.SpClearEmptiesScratchpad : Prop :=
  (∀ s : State, ∃ sp', exec .spClear s = .next { s with sp := sp' } ∧ ∀ j : Fin 9, sp'[j] = none) ∧
  (∀ s t : State, exec .spClear s = .next t → ∀ i ∈ [Instr.adcTemp, .adcVolt, .adcCurr],
    exec i t = .next { t with fault := 0x02#8 }) ∧
  decode (.cmd 0x00000032#32) = .ok .spClear ∧ ReservedBitsFault 0x00000032#32 0xFFFFFFFF#32

/-- R175 ADC_TEMP. -/
def Obligations.AdcTempReadsSignedOrFaults : Prop :=
  (∀ (s : State) (l h : Byte), s.sp[1] = some l → s.sp[2] = some h →
    exec .adcTemp s = .next { s with result := BitVec.ofInt 32 (signed l h) }) ∧
  (∀ s : State, s.sp[1] = none ∨ s.sp[2] = none → exec .adcTemp s = .next { s with fault := 0x02#8 }) ∧
  decode (.cmd 0x00000033#32) = .ok .adcTemp ∧ ReservedBitsFault 0x00000033#32 0xFFFFFFFF#32

/-- R177 ADC_VOLT. -/
def Obligations.AdcVoltReadsUnsignedOrFaults : Prop :=
  (∀ (s : State) (l h : Byte), s.sp[3] = some l → s.sp[4] = some h →
    exec .adcVolt s = .next { s with result := BitVec.ofNat 32 (unsigned l h) }) ∧
  (∀ s : State, s.sp[3] = none ∨ s.sp[4] = none → exec .adcVolt s = .next { s with fault := 0x02#8 }) ∧
  decode (.cmd 0x00000034#32) = .ok .adcVolt ∧ ReservedBitsFault 0x00000034#32 0xFFFFFFFF#32

/-- R179 ADC_CURR: the shunt scaling is not applied. -/
def Obligations.AdcCurrReadsSignedOrFaults : Prop :=
  (∀ (s : State) (l h : Byte), s.sp[5] = some l → s.sp[6] = some h →
    exec .adcCurr s = .next { s with result := BitVec.ofInt 32 (signed l h) }) ∧
  (∀ s : State, s.sp[5] = none ∨ s.sp[6] = none → exec .adcCurr s = .next { s with fault := 0x02#8 }) ∧
  decode (.cmd 0x00000035#32) = .ok .adcCurr ∧ ReservedBitsFault 0x00000035#32 0xFFFFFFFF#32

/-- R184: a failed initial reset of phase 1: no further transport call, no publish, SP unchanged. -/
def Obligations.AdcPollBusUnreachable : Prop :=
  ∀ s : State, s.Ready → s.resetAnswer 0 = false →
    exec .adcPoll s = .next { s with
      present := false
      outcome := 1#4
      resetPos := s.resetPos + 1
      events := s.events ++ [.reset false] }

/-- R180 to R182, R185: no general-purpose voltage channel is bound: phase 1 runs whatever is bound, phase 2 does not. -/
def Obligations.AdcPollOnePhase : Prop :=
  ∀ s : State, s.Ready → s.cfg.bindVad = false → s.resetAnswer 0 = true →
    exec .adcPoll s = .next { s with
      present := true
      outcome := 0#4
      sp := scratchpad s 0
      resetPos := s.resetPos + 5
      readPos := s.readPos + 9
      events := s.events ++ measureEvents s true 0 0 ++ phase1Publishes s }

/-- R180 to R182, R186: both phases. Phase 2 has no step 2 and keeps IAD. -/
def Obligations.AdcPollTwoPhases : Prop :=
  ∀ s : State, s.Ready → s.cfg.bindVad = true → s.resetAnswer 0 = true → s.resetAnswer 5 = true →
    exec .adcPoll s = .next { s with
      present := true
      outcome := 0#4
      sp := scratchpad s 9
      resetPos := s.resetPos + 9
      readPos := s.readPos + 18
      events := s.events ++ measureEvents s true 0 0 ++ phase1Publishes s ++ measureEvents s false 5 9 ++
        phase2Publish s }

/-- R182: phase 2's initial reset fails: only the VAD publish is left out. -/
def Obligations.AdcPollPhase2Unreachable : Prop :=
  ∀ s : State, s.Ready → s.cfg.bindVad = true → s.resetAnswer 0 = true → s.resetAnswer 5 = false →
    exec .adcPoll s = .next { s with
      present := false
      outcome := 4#4
      sp := scratchpad s 0
      resetPos := s.resetPos + 6
      readPos := s.readPos + 9
      events := s.events ++ measureEvents s true 0 0 ++ phase1Publishes s ++ [.reset false] }

/-- What R241 derives: the lower bounds of the waits of one analog poll cycle, for every choice of the minimum waits and for
R7's: 130 ms in phase 1 and 120 ms in phase 2. However long the waits last (R58), they last no less in all, and none lasts longer
than T_WAIT_MAX where that is given (notes/assumptions/7.md). -/
def Obligations.AdcPollWaitTotals : Prop :=
  ∀ s t : State, s.Ready → exec .adcPoll s = .next t → ∃ es, t.events = s.events ++ es ∧
    waitTotal s.cfg es = (if s.resetAnswer 0 then
      s.cfg.tCfgMs + s.cfg.tConvTMs + s.cfg.tConvVMs + s.cfg.tRecallMs +
        (if s.cfg.bindVad && s.resetAnswer 5 then s.cfg.tCfgMs + s.cfg.tConvVMs + s.cfg.tRecallMs else 0) else 0) ∧
    (DefaultWaits s.cfg → waitTotal s.cfg es =
      if s.resetAnswer 0 then (if s.cfg.bindVad && s.resetAnswer 5 then 250 else 130) else 0) ∧
    (∀ ds, admitsWaits s.cfg (waitsOf es) ds = true →
      waitTotal s.cfg es ≤ ds.sum ∧ ∀ m, s.cfg.tWaitMaxMs = some m → ∀ d ∈ ds, d ≤ m)

/-! ## Bytes on the wire -/

/-- Each wire command byte of R87 is one BusWrite of its byte, followed on the wire by what its row lists. That a byte on the
wire is an instruction, and that what follows it is put before the steps to come, is the model's (notes/assumptions/13.md). -/
def Obligations.WireCommandsAndWhatFollows : Prop :=
  ∀ s : State,
    exec .wireReadRegister s = .next { s with
      events := s.events ++ [.write 0xF0#8]
      todo := [.write 0x88#8, .write 0x00#8, .read .snap, .read .trailLo, .read .trailHi] ++ s.todo } ∧
    exec .wireReadMemoryCounter s = .next { s with
      events := s.events ++ [.write 0xA5#8]
      todo := [.write (match s.work.sel with | .a => 0xC0#8 | .b => 0xE0#8), .write 0x01#8] ++
        List.replicate 32 (.read .discard) ++ [.read (.cnt 0), .read (.cnt 1), .read (.cnt 2), .read (.cnt 3)] ++ s.todo } ∧
    exec .wireWriteScratchpad s = .next { s with
      events := s.events ++ [.write 0x4E#8]
      todo := [.write 0x00#8, .wire (configByte (decide (s.work.phase = .one)) s.cfg.bindCurr)] ++ s.todo } ∧
    exec .wireConvertT s = .next { s with events := s.events ++ [.write 0x44#8] } ∧
    exec .wireConvertV s = .next { s with events := s.events ++ [.write 0xB4#8] } ∧
    exec .wireRecallMemory s = .next { s with
      events := s.events ++ [.write 0xB8#8]
      todo := [.write 0x00#8] ++ s.todo } ∧
    exec .wireReadScratchpad s = .next { s with
      events := s.events ++ [.write 0xBE#8]
      todo := [.write 0x00#8] ++ (List.finRange 9).map (fun k => .read (.sp k)) ++ s.todo }

/-- Each configuration byte of R88, put on the bus, is one BusWrite of its byte (notes/assumptions/13.md). -/
def Obligations.ConfigBytesOnTheWire : Prop :=
  ∀ s : State,
    exec .cfgVddIad0 s = .next { s with events := s.events ++ [.write 0x08#8] } ∧
    exec .cfgVddIad1 s = .next { s with events := s.events ++ [.write 0x09#8] } ∧
    exec .cfgVadIad0 s = .next { s with events := s.events ++ [.write 0x00#8] } ∧
    exec .cfgVadIad1 s = .next { s with events := s.events ++ [.write 0x01#8] }

/-! ## The host, steps and faults -/

/-- A step runs the decoded operation: a CMD write that is accepted (R67, R205). The host's queue and the default turn are the
model's (notes/assumptions/5.md, 9.md, 17.md). -/
def Obligations.StepRunsAcceptedOperation : Prop :=
  ∀ (s : State) (w : Word) (i : Instr), s.sched = [] → s.busy = false → s.fault = 0#8 → decode (.cmd w) = .ok i →
    step { s with hostQ := .write 32 0x10 w :: s.hostQ } = exec i s

/-- A step runs the decoded byte the sequencer puts on the bus next, in the default turn and in a scheduled one
(the turns are the model's: notes/assumptions/5.md, 13.md, 17.md). -/
def Obligations.StepRunsWireByte : Prop :=
  ∀ (s : State) (b : Byte) (rest : List Micro) (i : Instr) (ts : List Turn),
    s.todo = .wire b :: rest → decode (.wire b) = .ok i →
    (s.sched = [] → s.busy = true → step s = exec i { s with todo := rest }) ∧
    (s.sched = .block :: ts → step s = exec i { s with todo := rest, sched := ts })

/-- A read of a readable register of R60 answers its value and changes nothing in the block, busy and faulted states included;
an access that R60 does not give is refused (R61). The host's queue, its order and the turns are the model's
(notes/assumptions/5.md, 9.md, 17.md, 21.md). -/
def Obligations.HostAccessesAnsweredOrRefused : Prop :=
  ∀ (s : State) (ts : List Turn) (rest : List HostAccess),
    (∀ r ∈ readable s, s.hostQ = .read 32 r.1 :: rest →
      (s.sched = .host :: ts →
        step s = .next { s with sched := ts, hostQ := rest, hostReplies := s.hostReplies ++ [r] }) ∧
      (s.sched = [] → s.busy = false →
        step s = .next { s with hostQ := rest, hostReplies := s.hostReplies ++ [r] })) ∧
    (∀ a, s.hostQ = a :: rest → ¬ Accepted a →
      (s.sched = .host :: ts → step s = .refused (.hostAccess a)) ∧
      (s.sched = [] → s.busy = false → step s = .refused (.hostAccess a)))

/-- The layout of STATUS that R31 gives. -/
def Obligations.StatusWordLayout : Prop :=
  ∀ s : State, (statusWord s).getLsbD 0 = s.crcOk ∧ (statusWord s).getLsbD 1 = s.present ∧
    (statusWord s).getLsbD 2 = s.busy ∧ (statusWord s).getLsbD 3 = false ∧
    (statusWord s).extractLsb' 4 4 = s.outcome ∧ (statusWord s).extractLsb' 8 8 = s.fault ∧
    (statusWord s).extractLsb' 16 16 = 0#16

/-- The acceptance of CMD writes (R67, R206, R208), with the model's turns and the order of the host's accesses
(notes/assumptions/5.md, 10.md, 17.md, 20.md, 21.md): on the host's
turn a CMD write is not accepted while FAULT ≠ 0 or BUSY = 1: it stays the host's next access and nothing changes. Otherwise the operation is issued. With FAULT ≠ 0 and no other move scheduled, the host is stuck. -/
def Obligations.CmdWriteHeldUntilAccepted : Prop :=
  ∀ (s : State) (w : Word) (ts : List Turn) (rest : List HostAccess), s.hostQ = .write 32 0x10 w :: rest →
    (s.sched = .host :: ts → s.fault ≠ 0#8 ∨ s.busy = true → step s = .next { s with sched := ts }) ∧
    (s.sched = .host :: ts → s.fault = 0#8 → s.busy = false →
      step s = issue .begun w { s with sched := ts, hostQ := rest }) ∧
    (s.sched = [] → s.fault ≠ 0#8 → s.busy = false → step s = .fault .hostStuck)

/-- The stickiness of a fault (R206): nothing but reset clears FAULT, and a faulted block changes nothing of its own. What may
change is what the host and other users do (notes/assumptions/5.md). -/
def Obligations.FaultIsStickyUntilReset : Prop :=
  ∀ s t : State, s.Inv → s.fault ≠ 0#8 → step s = .next t → s.sched.head? ≠ some .reset →
    ∃ lk hq hr sc, t = { s with lock := lk, hostQ := hq, hostReplies := hr, sched := sc }

/-- A reset at any time (R232) gives the values after reset, releases the lock and ends a poll operation at once. The values are
R230's, but for CRC_ACC, which is CRC_SEED for every seed: R230 gives 0xFFFF and R233 says the seed, so that for another seed than
R7's it is the model's (notes/assumptions/15.md). That a reset is a turn and what it keeps outside the block is the model's too
(notes/assumptions/5.md, 14.md). -/
def Obligations.ResetAtAnyTime : Prop :=
  ∀ (s : State) (ts : List Turn), s.sched = .reset :: ts →
    ∃ t, step s = .next t ∧ ResetValues s.cfg t ∧ t.events = [] ∧ t.todo = [] ∧ t.cfg = s.cfg ∧ t.sched = ts

/-- The values after reset that R230 lists; FAULT is CONFIG_INVALID where the configuration is not well formed (R9). CRC_ACC is
CRC_SEED for every seed, and 0xFFFF with R7's seed: R230 gives 0xFFFF and R233 says the seed, so that for another seed it is the
model's (notes/assumptions/15.md). That the lock is free, where R230 says only that this instance does not hold it, is the model's
too (notes/assumptions/22.md). -/
def Obligations.ResetStateValues : Prop :=
  (∀ c : Cfg, ResetValues c (State.atReset c) ∧ (State.atReset c).lock = .free) ∧ ResetValues State.reset.cfg State.reset

/-! ## The whole machine -/

/-- The invariant holds after reset, whatever the configuration. -/
def Obligations.InvariantAfterReset : Prop := ∀ c : Cfg, (State.atReset c).Inv

/-- Every step keeps the invariant. -/
def Obligations.InvariantKeptByStep : Prop := ∀ s t : State, s.Inv → step s = .next t → t.Inv

/-- No step changes CFG, which the state carries (R8; notes/assumptions/1.md). -/
def Obligations.ConfigurationNeverChanges : Prop := ∀ s t : State, step s = .next t → t.cfg = s.cfg

/-- A step adds events at the end of the history and takes none away, but for a reset, which empties it. That a reset empties
the whole history, its transport events too, is the model's (notes/assumptions/14.md): R230 and R36 speak of the sink history. -/
def Obligations.EventHistoryOnlyGrows : Prop :=
  ∀ s t : State, step s = .next t →
    if s.sched.head? = some .reset then t.events = [] else ∃ es, t.events = s.events ++ es

/-- While another user holds the bus lock (R66), no step makes a transport call. -/
def Obligations.NoTransportCallWithoutLock : Prop :=
  ∀ s t : State, s.Inv → s.lock = .other → step s = .next t → s.sched.head? ≠ some .reset →
    ∃ es, t.events = s.events ++ es ∧ ∀ e ∈ es, e.isTransport = false

/-- A poll operation that cannot acquire the lock (R66) is held: BUSY = 1, no event, and it goes on waiting. SEQ's value
meanwhile is the model's (notes/assumptions/4.md), as is the default turn (notes/assumptions/5.md, 17.md). -/
def Obligations.PollHeldWhileLockTaken : Prop :=
  ∀ (s : State) (i : Instr), IsPoll i → (∀ sel, i = .cntPoll sel → (counterSink s.cfg sel).2 = true) →
    s.lock = .other → s.sched = [] →
    ∃ p w ms, exec i s = .next { s with busy := true, seq := .running p, work := w, todo := .acquire :: ms } ∧
      step { s with busy := true, seq := .running p, work := w, todo := .acquire :: ms } =
        .next { s with busy := true, seq := .running p, work := w, todo := .acquire :: ms }

/-- Which operations write CRC_OK, RETAINED and OUTCOME, and that no poll operation writes RESULT. -/
def Obligations.OnlyNamedOperationsWrite : Prop :=
  ∀ (i : Instr) (s t : State), exec i s = .next t →
    ((∀ tr, i ≠ .crcCheck tr) → i ≠ .gpioPoll → t.crcOk = s.crcOk) ∧
    ((∀ v, i ≠ .edgeDetect v) → i ≠ .gpioPoll → t.retained = s.retained) ∧
    (¬ IsPoll i → t.outcome = s.outcome) ∧
    (IsPoll i → t.result = s.result)

/-- A poll operation ends ready for the next one (the END lines of R125, R156 and R183; R66) and raises no fault (R204), whatever
the transport answers. The fields `todo` and `work`, which `Ready` speaks of too, are the model's (notes/assumptions/6.md). -/
def Obligations.PollEndsReadyWithoutFault : Prop :=
  ∀ (i : Instr) (s : State), IsPoll i → s.Ready → ∃ t, exec i s = .next t ∧ t.Ready ∧ t.fault = s.fault

/-- A poll operation taken one step at a time, with nobody else moving, gives what it gives as a whole
(the turns are the model's: notes/assumptions/5.md, 17.md). -/
def Obligations.StepwisePollEqualsWhole : Prop :=
  ∀ (i : Instr) (s t : State), IsPoll i → s.Ready → s.sched = [] → beginInstr i s = .next t →
    ∃ k, k ≤ 128 ∧ Sys2Proof.core.run k t = exec i s

/-- The pseudo-instruction CNT_BYTES (R90) and CNT_ASSEMBLE give the four bytes, little-endian. -/
def Obligations.CntBytesThenAssemble : Prop :=
  ∀ (s : State) (b0 b1 b2 b3 : Byte), ∃ t, Runs (pseudoCntBytes b0 b1 b2 b3 ++ [.cntAssemble]) s t ∧
    t.result.toNat = littleEndian b0 b1 b2 b3 ∧ t.fault = s.fault
end

