-- ==== Sys2Proof/Laws/Decode.lean ====
section
/-! SUPPORT. The fields of an encoded operation word, and an operation word under a mask, field by field. -/

namespace Sys2Proof

theorem opcField_cmdWord (opc a b : Byte) : opcField (cmdWord opc a b) = opc := by
  apply BitVec.eq_of_getLsbD_eq
  intro i hi
  simp only [opcField, cmdWord, BitVec.getLsbD_append, BitVec.getLsbD_extractLsb']
  simp [hi, show i < 16 by omega]

theorem aField_cmdWord (opc a b : Byte) : aField (cmdWord opc a b) = a := by
  apply BitVec.eq_of_getLsbD_eq
  intro i hi
  simp only [aField, cmdWord, BitVec.getLsbD_append, BitVec.getLsbD_extractLsb']
  simp [hi, show 8 + i < 16 by omega]

theorem bField_cmdWord (opc a b : Byte) : bField (cmdWord opc a b) = b := by
  apply BitVec.eq_of_getLsbD_eq
  intro i hi
  simp only [bField, cmdWord, BitVec.getLsbD_append, BitVec.getLsbD_extractLsb']
  simp [hi]

/-- A mask acts on each field of an encoded operation word; C is 0 under any mask. -/
theorem cmdWord_and (opc a b : Byte) (k : Word) :
    cmdWord opc a b &&& k =
      cmdWord (opc &&& k.extractLsb' 0 8) (a &&& k.extractLsb' 8 8) (b &&& k.extractLsb' 16 8) := by
  apply BitVec.eq_of_getLsbD_eq
  intro i hi
  simp only [cmdWord, BitVec.getLsbD_and, BitVec.getLsbD_append, BitVec.getLsbD_extractLsb']
  by_cases h1 : i < 8
  · simp [h1, show i < 16 by omega]
  · by_cases h2 : i < 16
    · simp [h1, h2, show i - 8 < 8 by omega, show 8 + (i - 8) = i by omega]
    · by_cases h3 : i - 16 < 8
      · simp [h2, h3, show 16 + (i - 16) = i by omega]
      · simp [h2, h3]

end Sys2Proof
end

