-- ==== Sys2Proof/Laws/State.lean ====
section
/-! SUPPORT. One lemma for each field of State and each update of Machine/Ops.lean, true by definition: no later proof unfolds a
record update. -/

namespace Sys2Proof.Machine

section
variable (s : State) (es : List Event)
@[simp] theorem emit_cfg : (s.emit es).cfg = s.cfg := rfl
@[simp] theorem emit_crcAcc : (s.emit es).crcAcc = s.crcAcc := rfl
@[simp] theorem emit_crcOk : (s.emit es).crcOk = s.crcOk := rfl
@[simp] theorem emit_retained : (s.emit es).retained = s.retained := rfl
@[simp] theorem emit_cntLatch : (s.emit es).cntLatch = s.cntLatch := rfl
@[simp] theorem emit_sp : (s.emit es).sp = s.sp := rfl
@[simp] theorem emit_result : (s.emit es).result = s.result := rfl
@[simp] theorem emit_present : (s.emit es).present = s.present := rfl
@[simp] theorem emit_outcome : (s.emit es).outcome = s.outcome := rfl
@[simp] theorem emit_fault : (s.emit es).fault = s.fault := rfl
@[simp] theorem emit_busy : (s.emit es).busy = s.busy := rfl
@[simp] theorem emit_seq : (s.emit es).seq = s.seq := rfl
@[simp] theorem emit_lock : (s.emit es).lock = s.lock := rfl
@[simp] theorem emit_todo : (s.emit es).todo = s.todo := rfl
@[simp] theorem emit_work : (s.emit es).work = s.work := rfl
@[simp] theorem emit_events : (s.emit es).events = s.events ++ es := rfl
@[simp] theorem emit_resetTape : (s.emit es).resetTape = s.resetTape := rfl
@[simp] theorem emit_resetPos : (s.emit es).resetPos = s.resetPos := rfl
@[simp] theorem emit_readTape : (s.emit es).readTape = s.readTape := rfl
@[simp] theorem emit_readPos : (s.emit es).readPos = s.readPos := rfl
@[simp] theorem emit_hostQ : (s.emit es).hostQ = s.hostQ := rfl
@[simp] theorem emit_hostReplies : (s.emit es).hostReplies = s.hostReplies := rfl
@[simp] theorem emit_sched : (s.emit es).sched = s.sched := rfl
end

section
variable (s : State) (v : Word)
@[simp] theorem setResult_cfg : (s.setResult v).cfg = s.cfg := rfl
@[simp] theorem setResult_crcAcc : (s.setResult v).crcAcc = s.crcAcc := rfl
@[simp] theorem setResult_crcOk : (s.setResult v).crcOk = s.crcOk := rfl
@[simp] theorem setResult_retained : (s.setResult v).retained = s.retained := rfl
@[simp] theorem setResult_cntLatch : (s.setResult v).cntLatch = s.cntLatch := rfl
@[simp] theorem setResult_sp : (s.setResult v).sp = s.sp := rfl
@[simp] theorem setResult_result : (s.setResult v).result = v := rfl
@[simp] theorem setResult_present : (s.setResult v).present = s.present := rfl
@[simp] theorem setResult_outcome : (s.setResult v).outcome = s.outcome := rfl
@[simp] theorem setResult_fault : (s.setResult v).fault = s.fault := rfl
@[simp] theorem setResult_busy : (s.setResult v).busy = s.busy := rfl
@[simp] theorem setResult_seq : (s.setResult v).seq = s.seq := rfl
@[simp] theorem setResult_lock : (s.setResult v).lock = s.lock := rfl
@[simp] theorem setResult_todo : (s.setResult v).todo = s.todo := rfl
@[simp] theorem setResult_work : (s.setResult v).work = s.work := rfl
@[simp] theorem setResult_events : (s.setResult v).events = s.events := rfl
@[simp] theorem setResult_resetTape : (s.setResult v).resetTape = s.resetTape := rfl
@[simp] theorem setResult_resetPos : (s.setResult v).resetPos = s.resetPos := rfl
@[simp] theorem setResult_readTape : (s.setResult v).readTape = s.readTape := rfl
@[simp] theorem setResult_readPos : (s.setResult v).readPos = s.readPos := rfl
@[simp] theorem setResult_hostQ : (s.setResult v).hostQ = s.hostQ := rfl
@[simp] theorem setResult_hostReplies : (s.setResult v).hostReplies = s.hostReplies := rfl
@[simp] theorem setResult_sched : (s.setResult v).sched = s.sched := rfl
end

section
variable (s : State) (c : OutcomeCode)
@[simp] theorem setOutcome_cfg : (s.setOutcome c).cfg = s.cfg := rfl
@[simp] theorem setOutcome_crcAcc : (s.setOutcome c).crcAcc = s.crcAcc := rfl
@[simp] theorem setOutcome_crcOk : (s.setOutcome c).crcOk = s.crcOk := rfl
@[simp] theorem setOutcome_retained : (s.setOutcome c).retained = s.retained := rfl
@[simp] theorem setOutcome_cntLatch : (s.setOutcome c).cntLatch = s.cntLatch := rfl
@[simp] theorem setOutcome_sp : (s.setOutcome c).sp = s.sp := rfl
@[simp] theorem setOutcome_result : (s.setOutcome c).result = s.result := rfl
@[simp] theorem setOutcome_present : (s.setOutcome c).present = s.present := rfl
@[simp] theorem setOutcome_outcome : (s.setOutcome c).outcome = c.code := rfl
@[simp] theorem setOutcome_fault : (s.setOutcome c).fault = s.fault := rfl
@[simp] theorem setOutcome_busy : (s.setOutcome c).busy = s.busy := rfl
@[simp] theorem setOutcome_seq : (s.setOutcome c).seq = s.seq := rfl
@[simp] theorem setOutcome_lock : (s.setOutcome c).lock = s.lock := rfl
@[simp] theorem setOutcome_todo : (s.setOutcome c).todo = s.todo := rfl
@[simp] theorem setOutcome_work : (s.setOutcome c).work = s.work := rfl
@[simp] theorem setOutcome_events : (s.setOutcome c).events = s.events := rfl
@[simp] theorem setOutcome_resetTape : (s.setOutcome c).resetTape = s.resetTape := rfl
@[simp] theorem setOutcome_resetPos : (s.setOutcome c).resetPos = s.resetPos := rfl
@[simp] theorem setOutcome_readTape : (s.setOutcome c).readTape = s.readTape := rfl
@[simp] theorem setOutcome_readPos : (s.setOutcome c).readPos = s.readPos := rfl
@[simp] theorem setOutcome_hostQ : (s.setOutcome c).hostQ = s.hostQ := rfl
@[simp] theorem setOutcome_hostReplies : (s.setOutcome c).hostReplies = s.hostReplies := rfl
@[simp] theorem setOutcome_sched : (s.setOutcome c).sched = s.sched := rfl
end

section
variable (s : State) (c : FaultCode)
@[simp] theorem raiseFault_cfg : (s.raiseFault c).cfg = s.cfg := rfl
@[simp] theorem raiseFault_crcAcc : (s.raiseFault c).crcAcc = s.crcAcc := rfl
@[simp] theorem raiseFault_crcOk : (s.raiseFault c).crcOk = s.crcOk := rfl
@[simp] theorem raiseFault_retained : (s.raiseFault c).retained = s.retained := rfl
@[simp] theorem raiseFault_cntLatch : (s.raiseFault c).cntLatch = s.cntLatch := rfl
@[simp] theorem raiseFault_sp : (s.raiseFault c).sp = s.sp := rfl
@[simp] theorem raiseFault_result : (s.raiseFault c).result = s.result := rfl
@[simp] theorem raiseFault_present : (s.raiseFault c).present = s.present := rfl
@[simp] theorem raiseFault_outcome : (s.raiseFault c).outcome = s.outcome := rfl
@[simp] theorem raiseFault_fault : (s.raiseFault c).fault = c.code := rfl
@[simp] theorem raiseFault_busy : (s.raiseFault c).busy = s.busy := rfl
@[simp] theorem raiseFault_seq : (s.raiseFault c).seq = s.seq := rfl
@[simp] theorem raiseFault_lock : (s.raiseFault c).lock = s.lock := rfl
@[simp] theorem raiseFault_todo : (s.raiseFault c).todo = s.todo := rfl
@[simp] theorem raiseFault_work : (s.raiseFault c).work = s.work := rfl
@[simp] theorem raiseFault_events : (s.raiseFault c).events = s.events := rfl
@[simp] theorem raiseFault_resetTape : (s.raiseFault c).resetTape = s.resetTape := rfl
@[simp] theorem raiseFault_resetPos : (s.raiseFault c).resetPos = s.resetPos := rfl
@[simp] theorem raiseFault_readTape : (s.raiseFault c).readTape = s.readTape := rfl
@[simp] theorem raiseFault_readPos : (s.raiseFault c).readPos = s.readPos := rfl
@[simp] theorem raiseFault_hostQ : (s.raiseFault c).hostQ = s.hostQ := rfl
@[simp] theorem raiseFault_hostReplies : (s.raiseFault c).hostReplies = s.hostReplies := rfl
@[simp] theorem raiseFault_sched : (s.raiseFault c).sched = s.sched := rfl
end

section
variable (s : State)
@[simp] theorem busReset_cfg : (s.busReset).cfg = s.cfg := rfl
@[simp] theorem busReset_crcAcc : (s.busReset).crcAcc = s.crcAcc := rfl
@[simp] theorem busReset_crcOk : (s.busReset).crcOk = s.crcOk := rfl
@[simp] theorem busReset_retained : (s.busReset).retained = s.retained := rfl
@[simp] theorem busReset_cntLatch : (s.busReset).cntLatch = s.cntLatch := rfl
@[simp] theorem busReset_sp : (s.busReset).sp = s.sp := rfl
@[simp] theorem busReset_result : (s.busReset).result = s.result := rfl
@[simp] theorem busReset_present : (s.busReset).present = s.present := rfl
@[simp] theorem busReset_outcome : (s.busReset).outcome = s.outcome := rfl
@[simp] theorem busReset_fault : (s.busReset).fault = s.fault := rfl
@[simp] theorem busReset_busy : (s.busReset).busy = s.busy := rfl
@[simp] theorem busReset_seq : (s.busReset).seq = s.seq := rfl
@[simp] theorem busReset_lock : (s.busReset).lock = s.lock := rfl
@[simp] theorem busReset_todo : (s.busReset).todo = s.todo := rfl
@[simp] theorem busReset_work : (s.busReset).work = s.work := rfl
@[simp] theorem busReset_events : (s.busReset).events = s.events ++ [.reset (s.resetAnswer 0)] := rfl
@[simp] theorem busReset_resetTape : (s.busReset).resetTape = s.resetTape := rfl
@[simp] theorem busReset_resetPos : (s.busReset).resetPos = s.resetPos + 1 := rfl
@[simp] theorem busReset_readTape : (s.busReset).readTape = s.readTape := rfl
@[simp] theorem busReset_readPos : (s.busReset).readPos = s.readPos := rfl
@[simp] theorem busReset_hostQ : (s.busReset).hostQ = s.hostQ := rfl
@[simp] theorem busReset_hostReplies : (s.busReset).hostReplies = s.hostReplies := rfl
@[simp] theorem busReset_sched : (s.busReset).sched = s.sched := rfl
end

section
variable (s : State) (a : Addr)
@[simp] theorem busSelect_cfg : (s.busSelect a).cfg = s.cfg := rfl
@[simp] theorem busSelect_crcAcc : (s.busSelect a).crcAcc = s.crcAcc := rfl
@[simp] theorem busSelect_crcOk : (s.busSelect a).crcOk = s.crcOk := rfl
@[simp] theorem busSelect_retained : (s.busSelect a).retained = s.retained := rfl
@[simp] theorem busSelect_cntLatch : (s.busSelect a).cntLatch = s.cntLatch := rfl
@[simp] theorem busSelect_sp : (s.busSelect a).sp = s.sp := rfl
@[simp] theorem busSelect_result : (s.busSelect a).result = s.result := rfl
@[simp] theorem busSelect_present : (s.busSelect a).present = s.present := rfl
@[simp] theorem busSelect_outcome : (s.busSelect a).outcome = s.outcome := rfl
@[simp] theorem busSelect_fault : (s.busSelect a).fault = s.fault := rfl
@[simp] theorem busSelect_busy : (s.busSelect a).busy = s.busy := rfl
@[simp] theorem busSelect_seq : (s.busSelect a).seq = s.seq := rfl
@[simp] theorem busSelect_lock : (s.busSelect a).lock = s.lock := rfl
@[simp] theorem busSelect_todo : (s.busSelect a).todo = s.todo := rfl
@[simp] theorem busSelect_work : (s.busSelect a).work = s.work := rfl
@[simp] theorem busSelect_events : (s.busSelect a).events = s.events ++ [.select a] := rfl
@[simp] theorem busSelect_resetTape : (s.busSelect a).resetTape = s.resetTape := rfl
@[simp] theorem busSelect_resetPos : (s.busSelect a).resetPos = s.resetPos := rfl
@[simp] theorem busSelect_readTape : (s.busSelect a).readTape = s.readTape := rfl
@[simp] theorem busSelect_readPos : (s.busSelect a).readPos = s.readPos := rfl
@[simp] theorem busSelect_hostQ : (s.busSelect a).hostQ = s.hostQ := rfl
@[simp] theorem busSelect_hostReplies : (s.busSelect a).hostReplies = s.hostReplies := rfl
@[simp] theorem busSelect_sched : (s.busSelect a).sched = s.sched := rfl
end

section
variable (s : State) (v : Byte)
@[simp] theorem busWrite_cfg : (s.busWrite v).cfg = s.cfg := rfl
@[simp] theorem busWrite_crcAcc : (s.busWrite v).crcAcc = s.crcAcc := rfl
@[simp] theorem busWrite_crcOk : (s.busWrite v).crcOk = s.crcOk := rfl
@[simp] theorem busWrite_retained : (s.busWrite v).retained = s.retained := rfl
@[simp] theorem busWrite_cntLatch : (s.busWrite v).cntLatch = s.cntLatch := rfl
@[simp] theorem busWrite_sp : (s.busWrite v).sp = s.sp := rfl
@[simp] theorem busWrite_result : (s.busWrite v).result = s.result := rfl
@[simp] theorem busWrite_present : (s.busWrite v).present = s.present := rfl
@[simp] theorem busWrite_outcome : (s.busWrite v).outcome = s.outcome := rfl
@[simp] theorem busWrite_fault : (s.busWrite v).fault = s.fault := rfl
@[simp] theorem busWrite_busy : (s.busWrite v).busy = s.busy := rfl
@[simp] theorem busWrite_seq : (s.busWrite v).seq = s.seq := rfl
@[simp] theorem busWrite_lock : (s.busWrite v).lock = s.lock := rfl
@[simp] theorem busWrite_todo : (s.busWrite v).todo = s.todo := rfl
@[simp] theorem busWrite_work : (s.busWrite v).work = s.work := rfl
@[simp] theorem busWrite_events : (s.busWrite v).events = s.events ++ [.write v] := rfl
@[simp] theorem busWrite_resetTape : (s.busWrite v).resetTape = s.resetTape := rfl
@[simp] theorem busWrite_resetPos : (s.busWrite v).resetPos = s.resetPos := rfl
@[simp] theorem busWrite_readTape : (s.busWrite v).readTape = s.readTape := rfl
@[simp] theorem busWrite_readPos : (s.busWrite v).readPos = s.readPos := rfl
@[simp] theorem busWrite_hostQ : (s.busWrite v).hostQ = s.hostQ := rfl
@[simp] theorem busWrite_hostReplies : (s.busWrite v).hostReplies = s.hostReplies := rfl
@[simp] theorem busWrite_sched : (s.busWrite v).sched = s.sched := rfl
end

section
variable (s : State)
@[simp] theorem busRead_cfg : (s.busRead).cfg = s.cfg := rfl
@[simp] theorem busRead_crcAcc : (s.busRead).crcAcc = s.crcAcc := rfl
@[simp] theorem busRead_crcOk : (s.busRead).crcOk = s.crcOk := rfl
@[simp] theorem busRead_retained : (s.busRead).retained = s.retained := rfl
@[simp] theorem busRead_cntLatch : (s.busRead).cntLatch = s.cntLatch := rfl
@[simp] theorem busRead_sp : (s.busRead).sp = s.sp := rfl
@[simp] theorem busRead_result : (s.busRead).result = s.result := rfl
@[simp] theorem busRead_present : (s.busRead).present = s.present := rfl
@[simp] theorem busRead_outcome : (s.busRead).outcome = s.outcome := rfl
@[simp] theorem busRead_fault : (s.busRead).fault = s.fault := rfl
@[simp] theorem busRead_busy : (s.busRead).busy = s.busy := rfl
@[simp] theorem busRead_seq : (s.busRead).seq = s.seq := rfl
@[simp] theorem busRead_lock : (s.busRead).lock = s.lock := rfl
@[simp] theorem busRead_todo : (s.busRead).todo = s.todo := rfl
@[simp] theorem busRead_work : (s.busRead).work = s.work := rfl
@[simp] theorem busRead_events : (s.busRead).events = s.events ++ [.read (s.readAnswer 0)] := rfl
@[simp] theorem busRead_resetTape : (s.busRead).resetTape = s.resetTape := rfl
@[simp] theorem busRead_resetPos : (s.busRead).resetPos = s.resetPos := rfl
@[simp] theorem busRead_readTape : (s.busRead).readTape = s.readTape := rfl
@[simp] theorem busRead_readPos : (s.busRead).readPos = s.readPos + 1 := rfl
@[simp] theorem busRead_hostQ : (s.busRead).hostQ = s.hostQ := rfl
@[simp] theorem busRead_hostReplies : (s.busRead).hostReplies = s.hostReplies := rfl
@[simp] theorem busRead_sched : (s.busRead).sched = s.sched := rfl
end

section
variable (s : State) (t : WaitName)
@[simp] theorem busWait_cfg : (s.busWait t).cfg = s.cfg := rfl
@[simp] theorem busWait_crcAcc : (s.busWait t).crcAcc = s.crcAcc := rfl
@[simp] theorem busWait_crcOk : (s.busWait t).crcOk = s.crcOk := rfl
@[simp] theorem busWait_retained : (s.busWait t).retained = s.retained := rfl
@[simp] theorem busWait_cntLatch : (s.busWait t).cntLatch = s.cntLatch := rfl
@[simp] theorem busWait_sp : (s.busWait t).sp = s.sp := rfl
@[simp] theorem busWait_result : (s.busWait t).result = s.result := rfl
@[simp] theorem busWait_present : (s.busWait t).present = s.present := rfl
@[simp] theorem busWait_outcome : (s.busWait t).outcome = s.outcome := rfl
@[simp] theorem busWait_fault : (s.busWait t).fault = s.fault := rfl
@[simp] theorem busWait_busy : (s.busWait t).busy = s.busy := rfl
@[simp] theorem busWait_seq : (s.busWait t).seq = s.seq := rfl
@[simp] theorem busWait_lock : (s.busWait t).lock = s.lock := rfl
@[simp] theorem busWait_todo : (s.busWait t).todo = s.todo := rfl
@[simp] theorem busWait_work : (s.busWait t).work = s.work := rfl
@[simp] theorem busWait_events : (s.busWait t).events = s.events ++ [.wait t] := rfl
@[simp] theorem busWait_resetTape : (s.busWait t).resetTape = s.resetTape := rfl
@[simp] theorem busWait_resetPos : (s.busWait t).resetPos = s.resetPos := rfl
@[simp] theorem busWait_readTape : (s.busWait t).readTape = s.readTape := rfl
@[simp] theorem busWait_readPos : (s.busWait t).readPos = s.readPos := rfl
@[simp] theorem busWait_hostQ : (s.busWait t).hostQ = s.hostQ := rfl
@[simp] theorem busWait_hostReplies : (s.busWait t).hostReplies = s.hostReplies := rfl
@[simp] theorem busWait_sched : (s.busWait t).sched = s.sched := rfl
end

section
variable (s : State) (v : Half)
@[simp] theorem setCrcAcc_cfg : (s.setCrcAcc v).cfg = s.cfg := rfl
@[simp] theorem setCrcAcc_crcAcc : (s.setCrcAcc v).crcAcc = v := rfl
@[simp] theorem setCrcAcc_crcOk : (s.setCrcAcc v).crcOk = s.crcOk := rfl
@[simp] theorem setCrcAcc_retained : (s.setCrcAcc v).retained = s.retained := rfl
@[simp] theorem setCrcAcc_cntLatch : (s.setCrcAcc v).cntLatch = s.cntLatch := rfl
@[simp] theorem setCrcAcc_sp : (s.setCrcAcc v).sp = s.sp := rfl
@[simp] theorem setCrcAcc_result : (s.setCrcAcc v).result = s.result := rfl
@[simp] theorem setCrcAcc_present : (s.setCrcAcc v).present = s.present := rfl
@[simp] theorem setCrcAcc_outcome : (s.setCrcAcc v).outcome = s.outcome := rfl
@[simp] theorem setCrcAcc_fault : (s.setCrcAcc v).fault = s.fault := rfl
@[simp] theorem setCrcAcc_busy : (s.setCrcAcc v).busy = s.busy := rfl
@[simp] theorem setCrcAcc_seq : (s.setCrcAcc v).seq = s.seq := rfl
@[simp] theorem setCrcAcc_lock : (s.setCrcAcc v).lock = s.lock := rfl
@[simp] theorem setCrcAcc_todo : (s.setCrcAcc v).todo = s.todo := rfl
@[simp] theorem setCrcAcc_work : (s.setCrcAcc v).work = s.work := rfl
@[simp] theorem setCrcAcc_events : (s.setCrcAcc v).events = s.events := rfl
@[simp] theorem setCrcAcc_resetTape : (s.setCrcAcc v).resetTape = s.resetTape := rfl
@[simp] theorem setCrcAcc_resetPos : (s.setCrcAcc v).resetPos = s.resetPos := rfl
@[simp] theorem setCrcAcc_readTape : (s.setCrcAcc v).readTape = s.readTape := rfl
@[simp] theorem setCrcAcc_readPos : (s.setCrcAcc v).readPos = s.readPos := rfl
@[simp] theorem setCrcAcc_hostQ : (s.setCrcAcc v).hostQ = s.hostQ := rfl
@[simp] theorem setCrcAcc_hostReplies : (s.setCrcAcc v).hostReplies = s.hostReplies := rfl
@[simp] theorem setCrcAcc_sched : (s.setCrcAcc v).sched = s.sched := rfl
end

section
variable (s : State) (v : Bool)
@[simp] theorem setCrcOk_cfg : (s.setCrcOk v).cfg = s.cfg := rfl
@[simp] theorem setCrcOk_crcAcc : (s.setCrcOk v).crcAcc = s.crcAcc := rfl
@[simp] theorem setCrcOk_crcOk : (s.setCrcOk v).crcOk = v := rfl
@[simp] theorem setCrcOk_retained : (s.setCrcOk v).retained = s.retained := rfl
@[simp] theorem setCrcOk_cntLatch : (s.setCrcOk v).cntLatch = s.cntLatch := rfl
@[simp] theorem setCrcOk_sp : (s.setCrcOk v).sp = s.sp := rfl
@[simp] theorem setCrcOk_result : (s.setCrcOk v).result = s.result := rfl
@[simp] theorem setCrcOk_present : (s.setCrcOk v).present = s.present := rfl
@[simp] theorem setCrcOk_outcome : (s.setCrcOk v).outcome = s.outcome := rfl
@[simp] theorem setCrcOk_fault : (s.setCrcOk v).fault = s.fault := rfl
@[simp] theorem setCrcOk_busy : (s.setCrcOk v).busy = s.busy := rfl
@[simp] theorem setCrcOk_seq : (s.setCrcOk v).seq = s.seq := rfl
@[simp] theorem setCrcOk_lock : (s.setCrcOk v).lock = s.lock := rfl
@[simp] theorem setCrcOk_todo : (s.setCrcOk v).todo = s.todo := rfl
@[simp] theorem setCrcOk_work : (s.setCrcOk v).work = s.work := rfl
@[simp] theorem setCrcOk_events : (s.setCrcOk v).events = s.events := rfl
@[simp] theorem setCrcOk_resetTape : (s.setCrcOk v).resetTape = s.resetTape := rfl
@[simp] theorem setCrcOk_resetPos : (s.setCrcOk v).resetPos = s.resetPos := rfl
@[simp] theorem setCrcOk_readTape : (s.setCrcOk v).readTape = s.readTape := rfl
@[simp] theorem setCrcOk_readPos : (s.setCrcOk v).readPos = s.readPos := rfl
@[simp] theorem setCrcOk_hostQ : (s.setCrcOk v).hostQ = s.hostQ := rfl
@[simp] theorem setCrcOk_hostReplies : (s.setCrcOk v).hostReplies = s.hostReplies := rfl
@[simp] theorem setCrcOk_sched : (s.setCrcOk v).sched = s.sched := rfl
end

section
variable (s : State) (v : Byte)
@[simp] theorem setRetained_cfg : (s.setRetained v).cfg = s.cfg := rfl
@[simp] theorem setRetained_crcAcc : (s.setRetained v).crcAcc = s.crcAcc := rfl
@[simp] theorem setRetained_crcOk : (s.setRetained v).crcOk = s.crcOk := rfl
@[simp] theorem setRetained_retained : (s.setRetained v).retained = v := rfl
@[simp] theorem setRetained_cntLatch : (s.setRetained v).cntLatch = s.cntLatch := rfl
@[simp] theorem setRetained_sp : (s.setRetained v).sp = s.sp := rfl
@[simp] theorem setRetained_result : (s.setRetained v).result = s.result := rfl
@[simp] theorem setRetained_present : (s.setRetained v).present = s.present := rfl
@[simp] theorem setRetained_outcome : (s.setRetained v).outcome = s.outcome := rfl
@[simp] theorem setRetained_fault : (s.setRetained v).fault = s.fault := rfl
@[simp] theorem setRetained_busy : (s.setRetained v).busy = s.busy := rfl
@[simp] theorem setRetained_seq : (s.setRetained v).seq = s.seq := rfl
@[simp] theorem setRetained_lock : (s.setRetained v).lock = s.lock := rfl
@[simp] theorem setRetained_todo : (s.setRetained v).todo = s.todo := rfl
@[simp] theorem setRetained_work : (s.setRetained v).work = s.work := rfl
@[simp] theorem setRetained_events : (s.setRetained v).events = s.events := rfl
@[simp] theorem setRetained_resetTape : (s.setRetained v).resetTape = s.resetTape := rfl
@[simp] theorem setRetained_resetPos : (s.setRetained v).resetPos = s.resetPos := rfl
@[simp] theorem setRetained_readTape : (s.setRetained v).readTape = s.readTape := rfl
@[simp] theorem setRetained_readPos : (s.setRetained v).readPos = s.readPos := rfl
@[simp] theorem setRetained_hostQ : (s.setRetained v).hostQ = s.hostQ := rfl
@[simp] theorem setRetained_hostReplies : (s.setRetained v).hostReplies = s.hostReplies := rfl
@[simp] theorem setRetained_sched : (s.setRetained v).sched = s.sched := rfl
end

section
variable (s : State) (v : Bool)
@[simp] theorem setPresent_cfg : (s.setPresent v).cfg = s.cfg := rfl
@[simp] theorem setPresent_crcAcc : (s.setPresent v).crcAcc = s.crcAcc := rfl
@[simp] theorem setPresent_crcOk : (s.setPresent v).crcOk = s.crcOk := rfl
@[simp] theorem setPresent_retained : (s.setPresent v).retained = s.retained := rfl
@[simp] theorem setPresent_cntLatch : (s.setPresent v).cntLatch = s.cntLatch := rfl
@[simp] theorem setPresent_sp : (s.setPresent v).sp = s.sp := rfl
@[simp] theorem setPresent_result : (s.setPresent v).result = s.result := rfl
@[simp] theorem setPresent_present : (s.setPresent v).present = v := rfl
@[simp] theorem setPresent_outcome : (s.setPresent v).outcome = s.outcome := rfl
@[simp] theorem setPresent_fault : (s.setPresent v).fault = s.fault := rfl
@[simp] theorem setPresent_busy : (s.setPresent v).busy = s.busy := rfl
@[simp] theorem setPresent_seq : (s.setPresent v).seq = s.seq := rfl
@[simp] theorem setPresent_lock : (s.setPresent v).lock = s.lock := rfl
@[simp] theorem setPresent_todo : (s.setPresent v).todo = s.todo := rfl
@[simp] theorem setPresent_work : (s.setPresent v).work = s.work := rfl
@[simp] theorem setPresent_events : (s.setPresent v).events = s.events := rfl
@[simp] theorem setPresent_resetTape : (s.setPresent v).resetTape = s.resetTape := rfl
@[simp] theorem setPresent_resetPos : (s.setPresent v).resetPos = s.resetPos := rfl
@[simp] theorem setPresent_readTape : (s.setPresent v).readTape = s.readTape := rfl
@[simp] theorem setPresent_readPos : (s.setPresent v).readPos = s.readPos := rfl
@[simp] theorem setPresent_hostQ : (s.setPresent v).hostQ = s.hostQ := rfl
@[simp] theorem setPresent_hostReplies : (s.setPresent v).hostReplies = s.hostReplies := rfl
@[simp] theorem setPresent_sched : (s.setPresent v).sched = s.sched := rfl
end

section
variable (s : State) (k : Fin 4) (b : Byte)
@[simp] theorem loadCnt_cfg : (s.loadCnt k b).cfg = s.cfg := rfl
@[simp] theorem loadCnt_crcAcc : (s.loadCnt k b).crcAcc = s.crcAcc := rfl
@[simp] theorem loadCnt_crcOk : (s.loadCnt k b).crcOk = s.crcOk := rfl
@[simp] theorem loadCnt_retained : (s.loadCnt k b).retained = s.retained := rfl
@[simp] theorem loadCnt_cntLatch : (s.loadCnt k b).cntLatch = s.cntLatch.set k (some b) := rfl
@[simp] theorem loadCnt_sp : (s.loadCnt k b).sp = s.sp := rfl
@[simp] theorem loadCnt_result : (s.loadCnt k b).result = s.result := rfl
@[simp] theorem loadCnt_present : (s.loadCnt k b).present = s.present := rfl
@[simp] theorem loadCnt_outcome : (s.loadCnt k b).outcome = s.outcome := rfl
@[simp] theorem loadCnt_fault : (s.loadCnt k b).fault = s.fault := rfl
@[simp] theorem loadCnt_busy : (s.loadCnt k b).busy = s.busy := rfl
@[simp] theorem loadCnt_seq : (s.loadCnt k b).seq = s.seq := rfl
@[simp] theorem loadCnt_lock : (s.loadCnt k b).lock = s.lock := rfl
@[simp] theorem loadCnt_todo : (s.loadCnt k b).todo = s.todo := rfl
@[simp] theorem loadCnt_work : (s.loadCnt k b).work = s.work := rfl
@[simp] theorem loadCnt_events : (s.loadCnt k b).events = s.events := rfl
@[simp] theorem loadCnt_resetTape : (s.loadCnt k b).resetTape = s.resetTape := rfl
@[simp] theorem loadCnt_resetPos : (s.loadCnt k b).resetPos = s.resetPos := rfl
@[simp] theorem loadCnt_readTape : (s.loadCnt k b).readTape = s.readTape := rfl
@[simp] theorem loadCnt_readPos : (s.loadCnt k b).readPos = s.readPos := rfl
@[simp] theorem loadCnt_hostQ : (s.loadCnt k b).hostQ = s.hostQ := rfl
@[simp] theorem loadCnt_hostReplies : (s.loadCnt k b).hostReplies = s.hostReplies := rfl
@[simp] theorem loadCnt_sched : (s.loadCnt k b).sched = s.sched := rfl
end

section
variable (s : State)
@[simp] theorem clearCnt_cfg : (s.clearCnt).cfg = s.cfg := rfl
@[simp] theorem clearCnt_crcAcc : (s.clearCnt).crcAcc = s.crcAcc := rfl
@[simp] theorem clearCnt_crcOk : (s.clearCnt).crcOk = s.crcOk := rfl
@[simp] theorem clearCnt_retained : (s.clearCnt).retained = s.retained := rfl
@[simp] theorem clearCnt_cntLatch : (s.clearCnt).cntLatch = Vector.replicate 4 none := rfl
@[simp] theorem clearCnt_sp : (s.clearCnt).sp = s.sp := rfl
@[simp] theorem clearCnt_result : (s.clearCnt).result = s.result := rfl
@[simp] theorem clearCnt_present : (s.clearCnt).present = s.present := rfl
@[simp] theorem clearCnt_outcome : (s.clearCnt).outcome = s.outcome := rfl
@[simp] theorem clearCnt_fault : (s.clearCnt).fault = s.fault := rfl
@[simp] theorem clearCnt_busy : (s.clearCnt).busy = s.busy := rfl
@[simp] theorem clearCnt_seq : (s.clearCnt).seq = s.seq := rfl
@[simp] theorem clearCnt_lock : (s.clearCnt).lock = s.lock := rfl
@[simp] theorem clearCnt_todo : (s.clearCnt).todo = s.todo := rfl
@[simp] theorem clearCnt_work : (s.clearCnt).work = s.work := rfl
@[simp] theorem clearCnt_events : (s.clearCnt).events = s.events := rfl
@[simp] theorem clearCnt_resetTape : (s.clearCnt).resetTape = s.resetTape := rfl
@[simp] theorem clearCnt_resetPos : (s.clearCnt).resetPos = s.resetPos := rfl
@[simp] theorem clearCnt_readTape : (s.clearCnt).readTape = s.readTape := rfl
@[simp] theorem clearCnt_readPos : (s.clearCnt).readPos = s.readPos := rfl
@[simp] theorem clearCnt_hostQ : (s.clearCnt).hostQ = s.hostQ := rfl
@[simp] theorem clearCnt_hostReplies : (s.clearCnt).hostReplies = s.hostReplies := rfl
@[simp] theorem clearCnt_sched : (s.clearCnt).sched = s.sched := rfl
end

section
variable (s : State) (k : Fin 9) (b : Byte)
@[simp] theorem loadSp_cfg : (s.loadSp k b).cfg = s.cfg := rfl
@[simp] theorem loadSp_crcAcc : (s.loadSp k b).crcAcc = s.crcAcc := rfl
@[simp] theorem loadSp_crcOk : (s.loadSp k b).crcOk = s.crcOk := rfl
@[simp] theorem loadSp_retained : (s.loadSp k b).retained = s.retained := rfl
@[simp] theorem loadSp_cntLatch : (s.loadSp k b).cntLatch = s.cntLatch := rfl
@[simp] theorem loadSp_sp : (s.loadSp k b).sp = s.sp.set k (some b) := rfl
@[simp] theorem loadSp_result : (s.loadSp k b).result = s.result := rfl
@[simp] theorem loadSp_present : (s.loadSp k b).present = s.present := rfl
@[simp] theorem loadSp_outcome : (s.loadSp k b).outcome = s.outcome := rfl
@[simp] theorem loadSp_fault : (s.loadSp k b).fault = s.fault := rfl
@[simp] theorem loadSp_busy : (s.loadSp k b).busy = s.busy := rfl
@[simp] theorem loadSp_seq : (s.loadSp k b).seq = s.seq := rfl
@[simp] theorem loadSp_lock : (s.loadSp k b).lock = s.lock := rfl
@[simp] theorem loadSp_todo : (s.loadSp k b).todo = s.todo := rfl
@[simp] theorem loadSp_work : (s.loadSp k b).work = s.work := rfl
@[simp] theorem loadSp_events : (s.loadSp k b).events = s.events := rfl
@[simp] theorem loadSp_resetTape : (s.loadSp k b).resetTape = s.resetTape := rfl
@[simp] theorem loadSp_resetPos : (s.loadSp k b).resetPos = s.resetPos := rfl
@[simp] theorem loadSp_readTape : (s.loadSp k b).readTape = s.readTape := rfl
@[simp] theorem loadSp_readPos : (s.loadSp k b).readPos = s.readPos := rfl
@[simp] theorem loadSp_hostQ : (s.loadSp k b).hostQ = s.hostQ := rfl
@[simp] theorem loadSp_hostReplies : (s.loadSp k b).hostReplies = s.hostReplies := rfl
@[simp] theorem loadSp_sched : (s.loadSp k b).sched = s.sched := rfl
end

section
variable (s : State)
@[simp] theorem clearSp_cfg : (s.clearSp).cfg = s.cfg := rfl
@[simp] theorem clearSp_crcAcc : (s.clearSp).crcAcc = s.crcAcc := rfl
@[simp] theorem clearSp_crcOk : (s.clearSp).crcOk = s.crcOk := rfl
@[simp] theorem clearSp_retained : (s.clearSp).retained = s.retained := rfl
@[simp] theorem clearSp_cntLatch : (s.clearSp).cntLatch = s.cntLatch := rfl
@[simp] theorem clearSp_sp : (s.clearSp).sp = Vector.replicate 9 none := rfl
@[simp] theorem clearSp_result : (s.clearSp).result = s.result := rfl
@[simp] theorem clearSp_present : (s.clearSp).present = s.present := rfl
@[simp] theorem clearSp_outcome : (s.clearSp).outcome = s.outcome := rfl
@[simp] theorem clearSp_fault : (s.clearSp).fault = s.fault := rfl
@[simp] theorem clearSp_busy : (s.clearSp).busy = s.busy := rfl
@[simp] theorem clearSp_seq : (s.clearSp).seq = s.seq := rfl
@[simp] theorem clearSp_lock : (s.clearSp).lock = s.lock := rfl
@[simp] theorem clearSp_todo : (s.clearSp).todo = s.todo := rfl
@[simp] theorem clearSp_work : (s.clearSp).work = s.work := rfl
@[simp] theorem clearSp_events : (s.clearSp).events = s.events := rfl
@[simp] theorem clearSp_resetTape : (s.clearSp).resetTape = s.resetTape := rfl
@[simp] theorem clearSp_resetPos : (s.clearSp).resetPos = s.resetPos := rfl
@[simp] theorem clearSp_readTape : (s.clearSp).readTape = s.readTape := rfl
@[simp] theorem clearSp_readPos : (s.clearSp).readPos = s.readPos := rfl
@[simp] theorem clearSp_hostQ : (s.clearSp).hostQ = s.hostQ := rfl
@[simp] theorem clearSp_hostReplies : (s.clearSp).hostReplies = s.hostReplies := rfl
@[simp] theorem clearSp_sched : (s.clearSp).sched = s.sched := rfl
end

section
variable (s : State) (ms : List Micro)
@[simp] theorem push_cfg : (s.push ms).cfg = s.cfg := rfl
@[simp] theorem push_crcAcc : (s.push ms).crcAcc = s.crcAcc := rfl
@[simp] theorem push_crcOk : (s.push ms).crcOk = s.crcOk := rfl
@[simp] theorem push_retained : (s.push ms).retained = s.retained := rfl
@[simp] theorem push_cntLatch : (s.push ms).cntLatch = s.cntLatch := rfl
@[simp] theorem push_sp : (s.push ms).sp = s.sp := rfl
@[simp] theorem push_result : (s.push ms).result = s.result := rfl
@[simp] theorem push_present : (s.push ms).present = s.present := rfl
@[simp] theorem push_outcome : (s.push ms).outcome = s.outcome := rfl
@[simp] theorem push_fault : (s.push ms).fault = s.fault := rfl
@[simp] theorem push_busy : (s.push ms).busy = s.busy := rfl
@[simp] theorem push_seq : (s.push ms).seq = s.seq := rfl
@[simp] theorem push_lock : (s.push ms).lock = s.lock := rfl
@[simp] theorem push_todo : (s.push ms).todo = ms ++ s.todo := rfl
@[simp] theorem push_work : (s.push ms).work = s.work := rfl
@[simp] theorem push_events : (s.push ms).events = s.events := rfl
@[simp] theorem push_resetTape : (s.push ms).resetTape = s.resetTape := rfl
@[simp] theorem push_resetPos : (s.push ms).resetPos = s.resetPos := rfl
@[simp] theorem push_readTape : (s.push ms).readTape = s.readTape := rfl
@[simp] theorem push_readPos : (s.push ms).readPos = s.readPos := rfl
@[simp] theorem push_hostQ : (s.push ms).hostQ = s.hostQ := rfl
@[simp] theorem push_hostReplies : (s.push ms).hostReplies = s.hostReplies := rfl
@[simp] theorem push_sched : (s.push ms).sched = s.sched := rfl
end

section
variable (s : State) (ms : List Micro)
@[simp] theorem goto_cfg : (s.goto ms).cfg = s.cfg := rfl
@[simp] theorem goto_crcAcc : (s.goto ms).crcAcc = s.crcAcc := rfl
@[simp] theorem goto_crcOk : (s.goto ms).crcOk = s.crcOk := rfl
@[simp] theorem goto_retained : (s.goto ms).retained = s.retained := rfl
@[simp] theorem goto_cntLatch : (s.goto ms).cntLatch = s.cntLatch := rfl
@[simp] theorem goto_sp : (s.goto ms).sp = s.sp := rfl
@[simp] theorem goto_result : (s.goto ms).result = s.result := rfl
@[simp] theorem goto_present : (s.goto ms).present = s.present := rfl
@[simp] theorem goto_outcome : (s.goto ms).outcome = s.outcome := rfl
@[simp] theorem goto_fault : (s.goto ms).fault = s.fault := rfl
@[simp] theorem goto_busy : (s.goto ms).busy = s.busy := rfl
@[simp] theorem goto_seq : (s.goto ms).seq = s.seq := rfl
@[simp] theorem goto_lock : (s.goto ms).lock = s.lock := rfl
@[simp] theorem goto_todo : (s.goto ms).todo = ms := rfl
@[simp] theorem goto_work : (s.goto ms).work = s.work := rfl
@[simp] theorem goto_events : (s.goto ms).events = s.events := rfl
@[simp] theorem goto_resetTape : (s.goto ms).resetTape = s.resetTape := rfl
@[simp] theorem goto_resetPos : (s.goto ms).resetPos = s.resetPos := rfl
@[simp] theorem goto_readTape : (s.goto ms).readTape = s.readTape := rfl
@[simp] theorem goto_readPos : (s.goto ms).readPos = s.readPos := rfl
@[simp] theorem goto_hostQ : (s.goto ms).hostQ = s.hostQ := rfl
@[simp] theorem goto_hostReplies : (s.goto ms).hostReplies = s.hostReplies := rfl
@[simp] theorem goto_sched : (s.goto ms).sched = s.sched := rfl
end

section
variable (s : State) (p : Position)
@[simp] theorem enter_cfg : (s.enter p).cfg = s.cfg := rfl
@[simp] theorem enter_crcAcc : (s.enter p).crcAcc = s.crcAcc := rfl
@[simp] theorem enter_crcOk : (s.enter p).crcOk = s.crcOk := rfl
@[simp] theorem enter_retained : (s.enter p).retained = s.retained := rfl
@[simp] theorem enter_cntLatch : (s.enter p).cntLatch = s.cntLatch := rfl
@[simp] theorem enter_sp : (s.enter p).sp = s.sp := rfl
@[simp] theorem enter_result : (s.enter p).result = s.result := rfl
@[simp] theorem enter_present : (s.enter p).present = s.present := rfl
@[simp] theorem enter_outcome : (s.enter p).outcome = s.outcome := rfl
@[simp] theorem enter_fault : (s.enter p).fault = s.fault := rfl
@[simp] theorem enter_busy : (s.enter p).busy = s.busy := rfl
@[simp] theorem enter_seq : (s.enter p).seq = .running p := rfl
@[simp] theorem enter_lock : (s.enter p).lock = s.lock := rfl
@[simp] theorem enter_todo : (s.enter p).todo = s.todo := rfl
@[simp] theorem enter_work : (s.enter p).work = s.work := rfl
@[simp] theorem enter_events : (s.enter p).events = s.events := rfl
@[simp] theorem enter_resetTape : (s.enter p).resetTape = s.resetTape := rfl
@[simp] theorem enter_resetPos : (s.enter p).resetPos = s.resetPos := rfl
@[simp] theorem enter_readTape : (s.enter p).readTape = s.readTape := rfl
@[simp] theorem enter_readPos : (s.enter p).readPos = s.readPos := rfl
@[simp] theorem enter_hostQ : (s.enter p).hostQ = s.hostQ := rfl
@[simp] theorem enter_hostReplies : (s.enter p).hostReplies = s.hostReplies := rfl
@[simp] theorem enter_sched : (s.enter p).sched = s.sched := rfl
end

section
variable (s : State) (w : Work)
@[simp] theorem setWork_cfg : (s.setWork w).cfg = s.cfg := rfl
@[simp] theorem setWork_crcAcc : (s.setWork w).crcAcc = s.crcAcc := rfl
@[simp] theorem setWork_crcOk : (s.setWork w).crcOk = s.crcOk := rfl
@[simp] theorem setWork_retained : (s.setWork w).retained = s.retained := rfl
@[simp] theorem setWork_cntLatch : (s.setWork w).cntLatch = s.cntLatch := rfl
@[simp] theorem setWork_sp : (s.setWork w).sp = s.sp := rfl
@[simp] theorem setWork_result : (s.setWork w).result = s.result := rfl
@[simp] theorem setWork_present : (s.setWork w).present = s.present := rfl
@[simp] theorem setWork_outcome : (s.setWork w).outcome = s.outcome := rfl
@[simp] theorem setWork_fault : (s.setWork w).fault = s.fault := rfl
@[simp] theorem setWork_busy : (s.setWork w).busy = s.busy := rfl
@[simp] theorem setWork_seq : (s.setWork w).seq = s.seq := rfl
@[simp] theorem setWork_lock : (s.setWork w).lock = s.lock := rfl
@[simp] theorem setWork_todo : (s.setWork w).todo = s.todo := rfl
@[simp] theorem setWork_work : (s.setWork w).work = w := rfl
@[simp] theorem setWork_events : (s.setWork w).events = s.events := rfl
@[simp] theorem setWork_resetTape : (s.setWork w).resetTape = s.resetTape := rfl
@[simp] theorem setWork_resetPos : (s.setWork w).resetPos = s.resetPos := rfl
@[simp] theorem setWork_readTape : (s.setWork w).readTape = s.readTape := rfl
@[simp] theorem setWork_readPos : (s.setWork w).readPos = s.readPos := rfl
@[simp] theorem setWork_hostQ : (s.setWork w).hostQ = s.hostQ := rfl
@[simp] theorem setWork_hostReplies : (s.setWork w).hostReplies = s.hostReplies := rfl
@[simp] theorem setWork_sched : (s.setWork w).sched = s.sched := rfl
end

section
variable (s : State)
@[simp] theorem finish_cfg : (s.finish).cfg = s.cfg := rfl
@[simp] theorem finish_crcAcc : (s.finish).crcAcc = s.crcAcc := rfl
@[simp] theorem finish_crcOk : (s.finish).crcOk = s.crcOk := rfl
@[simp] theorem finish_retained : (s.finish).retained = s.retained := rfl
@[simp] theorem finish_cntLatch : (s.finish).cntLatch = s.cntLatch := rfl
@[simp] theorem finish_sp : (s.finish).sp = s.sp := rfl
@[simp] theorem finish_result : (s.finish).result = s.result := rfl
@[simp] theorem finish_present : (s.finish).present = s.present := rfl
@[simp] theorem finish_outcome : (s.finish).outcome = s.outcome := rfl
@[simp] theorem finish_fault : (s.finish).fault = s.fault := rfl
@[simp] theorem finish_busy : (s.finish).busy = false := rfl
@[simp] theorem finish_seq : (s.finish).seq = .idle := rfl
@[simp] theorem finish_lock : (s.finish).lock = .free := rfl
@[simp] theorem finish_todo : (s.finish).todo = [] := rfl
@[simp] theorem finish_work : (s.finish).work = Work.none := rfl
@[simp] theorem finish_events : (s.finish).events = s.events := rfl
@[simp] theorem finish_resetTape : (s.finish).resetTape = s.resetTape := rfl
@[simp] theorem finish_resetPos : (s.finish).resetPos = s.resetPos := rfl
@[simp] theorem finish_readTape : (s.finish).readTape = s.readTape := rfl
@[simp] theorem finish_readPos : (s.finish).readPos = s.readPos := rfl
@[simp] theorem finish_hostQ : (s.finish).hostQ = s.hostQ := rfl
@[simp] theorem finish_hostReplies : (s.finish).hostReplies = s.hostReplies := rfl
@[simp] theorem finish_sched : (s.finish).sched = s.sched := rfl
end

end Sys2Proof.Machine
end

