-- ==== Sys2Proof/Laws/Ops.lean ====
section
/-! SUPPORT. What the shared operations over the latches and the transport's answers do: reading a latch after a write, when a
latch read is defined, and how the answers move on after a draw. -/

namespace Sys2Proof.Machine

/-- Reading a latch byte after writing it gives the byte written. -/
theorem loadCnt_same (s : State) (k : Fin 4) (b : Byte) : (s.loadCnt k b).cntLatch[k] = some b := by simp

/-- Writing a latch byte leaves every other one. -/
theorem loadCnt_other (s : State) (k j : Fin 4) (b : Byte) (h : k ≠ j) :
    (s.loadCnt k b).cntLatch[j] = s.cntLatch[j] := by
  simp [Fin.val_ne_of_ne h]

theorem loadSp_same (s : State) (k : Fin 9) (b : Byte) : (s.loadSp k b).sp[k] = some b := by simp

theorem loadSp_other (s : State) (k j : Fin 9) (b : Byte) (h : k ≠ j) : (s.loadSp k b).sp[j] = s.sp[j] := by
  simp [Fin.val_ne_of_ne h]

/-- The counter value is defined exactly when all four latch bytes are written (R154). -/
theorem cntValue_eq_some_iff (s : State) (v : Word) :
    s.cntValue = some v ↔ ∃ b0 b1 b2 b3, s.cntLatch[0] = some b0 ∧ s.cntLatch[1] = some b1 ∧
      s.cntLatch[2] = some b2 ∧ s.cntLatch[3] = some b3 ∧ v = assemble b0 b1 b2 b3 := by
  unfold State.cntValue
  cases s.cntLatch[0] <;> cases s.cntLatch[1] <;> cases s.cntLatch[2] <;> cases s.cntLatch[3] <;> simp [eq_comm]

/-- A 16-bit quantity of the scratchpad is defined exactly when its two bytes are written (R175, R177, R179). -/
theorem spHalf_eq_some_iff (s : State) (lo hi : Fin 9) (v : Half) :
    s.spHalf lo hi = some v ↔ ∃ l h, s.sp[lo] = some l ∧ s.sp[hi] = some h ∧ v = halfOf l h := by
  unfold State.spHalf
  cases s.sp[lo] <;> cases s.sp[hi] <;> simp [eq_comm]

/-- After one `BusRead` the answers are those from the next one on. -/
@[simp] theorem readAnswer_busRead (s : State) (n : Nat) : (s.busRead).readAnswer n = s.readAnswer (n + 1) := by
  simp [State.readAnswer, State.busRead, Nat.add_assoc, Nat.add_comm 1 n]

@[simp] theorem resetAnswer_busReset (s : State) (n : Nat) : (s.busReset).resetAnswer n = s.resetAnswer (n + 1) := by
  simp [State.resetAnswer, State.busReset, Nat.add_assoc, Nat.add_comm 1 n]

/-- An answer the tape holds is the tape's. -/
theorem readAnswer_of_tape (s : State) (n : Nat) (v : Byte) (h : s.readTape[s.readPos + n]? = some v) :
    s.readAnswer n = v := by
  simp [State.readAnswer, h]

theorem resetAnswer_of_tape (s : State) (n : Nat) (p : Bool) (h : s.resetTape[s.resetPos + n]? = some p) :
    s.resetAnswer n = p := by
  simp [State.resetAnswer, h]

/-- Raising a fault changes FAULT and nothing else (R205). -/
theorem raiseFault_frame (s : State) (c : FaultCode) : s.raiseFault c = { s with fault := c.code } := rfl

/-- A fault code is not 0 (R204). -/
theorem faultCode_ne_zero (c : FaultCode) : c.code ≠ 0#8 := by cases c <;> decide

/-- Every outcome code is one of R200's. -/
theorem outcomeCode_le (c : OutcomeCode) : c.code.toNat ≤ 4 := by cases c <;> decide

theorem faultCode_le (c : FaultCode) : c.code.toNat ≤ 3 := by cases c <;> decide

/-- Storing a byte read keeps every field but the latch or the variable it goes to. -/
theorem store_frame (s : State) (v : Byte) (dst : ReadDst) :
    ∃ w c p, s.store v dst = { s with work := w, cntLatch := c, sp := p } := by
  cases dst <;> exact ⟨_, _, _, rfl⟩

end Sys2Proof.Machine
end

