-- ==== Sys2Proof/Laws/Sequencer.lean ====
section
/-! SUPPORT. How the sequencer runs: one step taken from the list, what a byte on the wire means, and the end of a run. -/

namespace Sys2Proof.Machine

theorem microStep_nil (s : State) (h : s.todo = []) : microStep s = s := by simp [microStep, h]

theorem microStep_cons (s : State) (m : Micro) (rest : List Micro) (h : s.todo = m :: rest) :
    microStep s = runMicro m (s.goto rest) := by simp [microStep, h]

theorem microSteps_nil (n : Nat) (s : State) (h : s.todo = []) : microSteps n s = s := by
  induction n with
  | zero => rfl
  | succ n ih => rw [microSteps, microStep_nil s h, ih]

theorem microSteps_cons (n : Nat) (s : State) (m : Micro) (rest : List Micro) (h : s.todo = m :: rest) :
    microSteps (n + 1) s = microSteps n (runMicro m (s.goto rest)) := by
  rw [microSteps, microStep_cons s m rest h]

theorem microSteps_add (m n : Nat) (s : State) : microSteps (m + n) s = microSteps n (microSteps m s) := by
  induction m generalizing s with
  | zero => simp [microSteps]
  | succ m ih => rw [Nat.succ_add, microSteps, microSteps, ih]

/-- A poll operation that waits for the lock stays as it is (R66). -/
theorem microStep_waiting (s : State) (rest : List Micro) (h : s.todo = .acquire :: rest) (hl : s.lock = .other) :
    microStep s = s := by
  rw [microStep_cons s _ _ h]
  simp only [runMicro, hl, if_true, State.push, State.goto]
  cases s
  simp_all

theorem microSteps_waiting (n : Nat) (s : State) (rest : List Micro) (h : s.todo = .acquire :: rest)
    (hl : s.lock = .other) : microSteps n s = s := by
  induction n with
  | zero => rfl
  | succ n ih => rw [microSteps, microStep_waiting s rest h hl, ih]

/-- What every step of a poll operation keeps, if each kind of step keeps it. -/
theorem microSteps_keeps {α : Type} (f : State → α) (hf : ∀ s, f (microStep s) = f s) (n : Nat) (s : State) :
    f (microSteps n s) = f s := by
  induction n generalizing s with
  | zero => rfl
  | succ n ih => rw [microSteps, ih, hf]

/-- An invariant of one step is an invariant of a run. -/
theorem microSteps_invariant (P : State → Prop) (hP : ∀ s, P s → P (microStep s)) (n : Nat) (s : State) (h : P s) :
    P (microSteps n s) := by
  induction n generalizing s with
  | zero => exact h
  | succ n ih => exact ih _ (hP s h)

@[simp] theorem decodeWire_readRegister : decodeWire 0xF0#8 = .ok .wireReadRegister := by decide
@[simp] theorem decodeWire_readMemoryCounter : decodeWire 0xA5#8 = .ok .wireReadMemoryCounter := by decide
@[simp] theorem decodeWire_writeScratchpad : decodeWire 0x4E#8 = .ok .wireWriteScratchpad := by decide
@[simp] theorem decodeWire_convertT : decodeWire 0x44#8 = .ok .wireConvertT := by decide
@[simp] theorem decodeWire_convertV : decodeWire 0xB4#8 = .ok .wireConvertV := by decide
@[simp] theorem decodeWire_recallMemory : decodeWire 0xB8#8 = .ok .wireRecallMemory := by decide
@[simp] theorem decodeWire_readScratchpad : decodeWire 0xBE#8 = .ok .wireReadScratchpad := by decide
@[simp] theorem decodeWire_vddIad0 : decodeWire 0x08#8 = .ok .cfgVddIad0 := by decide
@[simp] theorem decodeWire_vddIad1 : decodeWire 0x09#8 = .ok .cfgVddIad1 := by decide
@[simp] theorem decodeWire_vadIad0 : decodeWire 0x00#8 = .ok .cfgVadIad0 := by decide
@[simp] theorem decodeWire_vadIad1 : decodeWire 0x01#8 = .ok .cfgVadIad1 := by decide

end Sys2Proof.Machine
end

