-- ==== Sys2Proof/Laws/Issue.lean ====
section
/-! SUPPORT. What the turns of the agents do: a turn of the block is one step of its sequencer, and a host read changes only what
the host sees. -/

namespace Sys2Proof.Machine

/-- A wire byte that is an instruction means the same in `exec` and as a step of the sequencer (R87, R88). -/
theorem exec_wire (b : Byte) (i : Instr) (s : State) (h : decode (.wire b) = .ok i) : exec i s = .next (wireByte b s) := by
  have hd : decodeWire b = .ok i := h
  unfold wireByte
  rw [hd]
  unfold decodeWire at hd
  split at hd
  · rename_i r hr
    have hm := List.mem_of_find?_eq_some hr
    have hb := List.find?_some hr
    cases hd
    simp only [wireRows, List.mem_cons, List.not_mem_nil, or_false] at hm
    rcases hm with rfl | rfl | rfl | rfl | rfl | rfl | rfl | rfl | rfl | rfl | rfl <;>
      (rw [beq_iff_eq] at hb; subst hb; rfl)
  · cases hd

/-- A turn of the block is one step of its sequencer, whatever the step is. -/
theorem blockTurn_eq (s : State) : blockTurn s = .next (microStep s) := by
  unfold blockTurn
  split
  · rename_i b rest ht
    split
    · rename_i i hi
      rw [exec_wire b i _ hi, microStep_cons s _ _ ht]
      rfl
    · rfl
  · rfl

/-- A host read that is answered changes only what the host has been told (R62). -/
theorem answerRead_next (width offset : Nat) (s t : State) (h : answerRead width offset s = .next t) :
    ∃ v, hostRead s width offset = some v ∧ t = { s with hostReplies := s.hostReplies ++ [(offset, v)] } := by
  unfold answerRead at h
  split at h
  · rename_i v hv
    cases h
    exact ⟨v, hv, rfl⟩
  · cases h

/-- A host read is never a fault. -/
theorem answerRead_ne_fault (width offset : Nat) (s : State) (f : Fault) : answerRead width offset s ≠ .fault f := by
  unfold answerRead
  split <;> nofun

/-- An operation that is no poll operation is the same begun and as a whole. -/
theorem beginInstr_eq (i : Instr) (s : State) (h1 : i ≠ .gpioPoll) (h2 : ∀ sel, i ≠ .cntPoll sel) (h3 : i ≠ .adcPoll) :
    beginInstr i s = exec i s := by
  cases i <;> simp_all [beginInstr]

/-- What is issued: ILLEGAL_ENCODING, or the operation the word decodes to. -/
theorem issue_cases (x : Extent) (w : Word) (s : State) :
    (∃ e, decode (.cmd w) = .error e ∧ issue x w s = .next { s with fault := 0x01#8 }) ∨
    ∃ i, decode (.cmd w) = .ok i ∧ ((x = .whole ∧ issue x w s = exec i s) ∨ (x = .begun ∧ issue x w s = beginInstr i s)) := by
  unfold issue
  cases h : decode (.cmd w) with
  | error e => exact .inl ⟨e, rfl, rfl⟩
  | ok i => cases x <;> exact .inr ⟨i, rfl, by simp⟩

/-- The step of an empty schedule while a poll operation is in progress. -/
theorem step_busy (s : State) (h1 : s.sched = []) (h2 : s.busy = true) : step s = .next (microStep s) := by
  simp [step, h1, defaultTurn, h2, blockTurn_eq]

end Sys2Proof.Machine
end

