-- ==== Sys2Proof/Laws/Operands.lean ====
section
/-! SUPPORT. The operand and data forms as numbers, and bit by bit. -/

namespace Sys2Proof.Machine

/-- A byte put below a bit vector, as a number. -/
theorem toNat_append_byte {n : Nat} (x : BitVec n) (y : Byte) : (x ++ y).toNat = y.toNat + 256 * x.toNat := by
  rw [BitVec.toNat_append, ← Nat.shiftLeft_add_eq_or_of_lt y.isLt, Nat.shiftLeft_eq]
  omega

theorem halfOf_toNat (lo hi : Byte) : (halfOf lo hi).toNat = lo.toNat + 256 * hi.toNat := toNat_append_byte hi lo

theorem assemble_toNat (b0 b1 b2 b3 : Byte) :
    (assemble b0 b1 b2 b3).toNat = b0.toNat + 256 * b1.toNat + 65536 * b2.toNat + 16777216 * b3.toNat := by
  show ((b3 ++ b2 ++ b1) ++ b0).toNat = _
  rw [toNat_append_byte, toNat_append_byte, toNat_append_byte]
  omega

/-- `s16` of two bytes, low byte first. -/
theorem s16_halfOf (lo hi : Byte) :
    s16 (halfOf lo hi) =
      if lo.toNat + 256 * hi.toNat < 32768 then (lo.toNat + 256 * hi.toNat : Int)
      else (lo.toNat + 256 * hi.toNat : Int) - 65536 := by
  unfold s16
  rw [BitVec.toInt_eq_toNat_cond, halfOf_toNat]
  have := lo.isLt
  have := hi.isLt
  split <;> split <;> omega

/-- One bit of the change mask. -/
theorem edges_getLsbD (s r bind : Byte) (i : Nat) :
    (edges s r bind).getLsbD i = ((s.getLsbD i ^^ r.getLsbD i) && bind.getLsbD i) := by
  simp [edges]

/-- Nothing is published where nothing differs. -/
theorem edgeEvents_self (s bind : Byte) : edgeEvents s (edges s s bind) = [] := by
  simp [edgeEvents, edgeEvent, edges, channels]

theorem channels_eq_finRange : channels = List.finRange 8 := by decide

/-- A conversion at the sink keeps which kind of value it is. -/
theorem toSink_unavailable {F : Type} (f : Rat → F) (v : Value) : v.toSink f = .unavailable ↔ v = .unavailable := by
  cases v <;> simp [Value.toSink]

/-! ### Waits -/

theorem waitsOf_append (es fs : List Event) : waitsOf (es ++ fs) = waitsOf es ++ waitsOf fs := by simp [waitsOf]

theorem waitTotal_append (c : Cfg) (es fs : List Event) : waitTotal c (es ++ fs) = waitTotal c es + waitTotal c fs := by
  simp [waitTotal, waitsOf_append]

/-- A wait that is admitted lasts at least its minimum, and at most T_WAIT_MAX where that is given. -/
theorem admits_iff (c : Cfg) (t : WaitName) (ms : Nat) :
    t.admits c ms = true ↔ t.minMs c ≤ ms ∧ ∀ m, c.tWaitMaxMs = some m → ms ≤ m := by
  unfold WaitName.admits
  cases c.tWaitMaxMs <;> simp

/-- Admitted durations add up to at least the sum of the minimums, and none exceeds a T_WAIT_MAX that is given. -/
theorem admitsWaits_bounds (c : Cfg) (ts : List WaitName) (ds : List Nat) (h : admitsWaits c ts ds = true) :
    (ts.map (WaitName.minMs c)).sum ≤ ds.sum ∧ ∀ m, c.tWaitMaxMs = some m → ∀ d ∈ ds, d ≤ m := by
  induction ts generalizing ds with
  | nil => cases ds <;> simp_all [admitsWaits]
  | cons t ts ih =>
    cases ds with
    | nil => simp [admitsWaits] at h
    | cons d ds =>
      rw [admitsWaits, Bool.and_eq_true, admits_iff] at h
      obtain ⟨⟨hlo, hhi⟩, hrest⟩ := h
      obtain ⟨hsum, hmax⟩ := ih ds hrest
      refine ⟨by simp only [List.map_cons, List.sum_cons]; omega, fun m hm e he => ?_⟩
      rcases List.mem_cons.mp he with rfl | he
      · exact hhi m hm
      · exact hmax m hm e he

end Sys2Proof.Machine
end

