-- ==== Sys2Proof/Laws/PerInstr.lean ====
section
/-! SUPPORT. The family `InRow` (LAWS.json): every instruction's encoding lies in its own row of spec/opcode_table.json, that is,
its fixed bits, under the row's mask, are the row's match. -/

namespace Sys2Proof.Laws.InRow

/-- Match and mask of an instruction's row in spec/opcode_table.json. -/
def row : Instr → Nat × Nat
  | .crcInit => (0x00000001, 0xFFFFFFFF)
  | .crcUpdate _ => (0x00000002, 0xFFFF00FF)
  | .crcCheck _ => (0x00000003, 0xFF0000FF)
  | .gpioDecode _ => (0x00000010, 0xFFFF00FF)
  | .edgeDetect _ => (0x00000011, 0xFFFF00FF)
  | .gpioFail => (0x00000012, 0xFFFFFFFF)
  | .gpioPoll => (0x00000013, 0xFFFFFFFF)
  | .cntPage _ => (0x00000020, 0xFFFFFEFF)
  | .cntLoad _ _ => (0x00000021, 0xFFFC00FF)
  | .cntAssemble => (0x00000022, 0xFFFFFFFF)
  | .cntClear => (0x00000023, 0xFFFFFFFF)
  | .cntPoll _ => (0x00000024, 0xFFFFFEFF)
  | .adcConfig _ _ => (0x00000030, 0xFFFFFCFF)
  | .spLoad _ _ => (0x00000031, 0xFF0000FF)
  | .spClear => (0x00000032, 0xFFFFFFFF)
  | .adcTemp => (0x00000033, 0xFFFFFFFF)
  | .adcVolt => (0x00000034, 0xFFFFFFFF)
  | .adcCurr => (0x00000035, 0xFFFFFFFF)
  | .adcPoll => (0x00000036, 0xFFFFFFFF)
  | .wireReadRegister => (0xF0, 0xFF)
  | .wireReadMemoryCounter => (0xA5, 0xFF)
  | .wireWriteScratchpad => (0x4E, 0xFF)
  | .wireConvertT => (0x44, 0xFF)
  | .wireConvertV => (0xB4, 0xFF)
  | .wireRecallMemory => (0xB8, 0xFF)
  | .wireReadScratchpad => (0xBE, 0xFF)
  | .cfgVddIad0 => (0x08, 0xFF)
  | .cfgVddIad1 => (0x09, 0xFF)
  | .cfgVadIad0 => (0x00, 0xFF)
  | .cfgVadIad1 => (0x01, 0xFF)

/-- The bits of a code under a mask are the match. -/
def fits : Code → Nat × Nat → Prop
  | .cmd w, (m, k) => w &&& BitVec.ofNat 32 k = BitVec.ofNat 32 m
  | .wire b, (m, k) => b &&& BitVec.ofNat 8 k = BitVec.ofNat 8 m

/-- The instruction's encoding lies in its row. -/
def Statement (i : Instr) : Prop := fits (encode i) (row i)

/-- An encoded operation word lies in a row if each of its fields does. -/
theorem fits_cmdWord (opc a b : Byte) (m k : Nat)
    (h : cmdWord (opc &&& (BitVec.ofNat 32 k).extractLsb' 0 8) (a &&& (BitVec.ofNat 32 k).extractLsb' 8 8)
      (b &&& (BitVec.ofNat 32 k).extractLsb' 16 8) = BitVec.ofNat 32 m) : fits (.cmd (cmdWord opc a b)) (m, k) := by
  rw [fits, cmdWord_and, h]

theorem crcInit : Statement .crcInit := rfl

theorem crcUpdate (byte : Byte) : Statement (.crcUpdate byte) := by
  apply fits_cmdWord
  simp [cmdWord]

theorem crcCheck (trailer : Half) : Statement (.crcCheck trailer) := by
  apply fits_cmdWord
  simp [cmdWord]

theorem gpioDecode (snapshot : Byte) : Statement (.gpioDecode snapshot) := by
  apply fits_cmdWord
  simp [cmdWord]

theorem edgeDetect (snapshot : Byte) : Statement (.edgeDetect snapshot) := by
  apply fits_cmdWord
  simp [cmdWord]

theorem gpioFail : Statement .gpioFail := rfl

theorem gpioPoll : Statement .gpioPoll := rfl

theorem cntPage (sel : Counter) : Statement (.cntPage sel) := by
  apply fits_cmdWord
  cases sel <;> decide

theorem cntLoad (k : Fin 4) (byte : Byte) : Statement (.cntLoad k byte) := by
  apply fits_cmdWord
  have h : BitVec.ofNat 8 k.val &&& 0xFC#8 = 0#8 := by revert k; decide
  simp [cmdWord, h]

theorem cntAssemble : Statement .cntAssemble := rfl

theorem cntClear : Statement .cntClear := rfl

theorem cntPoll (sel : Counter) : Statement (.cntPoll sel) := by
  apply fits_cmdWord
  cases sel <;> decide

theorem adcConfig (vdd iad : Bool) : Statement (.adcConfig vdd iad) := by
  apply fits_cmdWord
  cases vdd <;> cases iad <;> decide

theorem spLoad (k byte : Byte) : Statement (.spLoad k byte) := by
  apply fits_cmdWord
  simp [cmdWord]

theorem spClear : Statement .spClear := rfl

theorem adcTemp : Statement .adcTemp := rfl

theorem adcVolt : Statement .adcVolt := rfl

theorem adcCurr : Statement .adcCurr := rfl

theorem adcPoll : Statement .adcPoll := rfl

theorem wireReadRegister : Statement .wireReadRegister := rfl

theorem wireReadMemoryCounter : Statement .wireReadMemoryCounter := rfl

theorem wireWriteScratchpad : Statement .wireWriteScratchpad := rfl

theorem wireConvertT : Statement .wireConvertT := rfl

theorem wireConvertV : Statement .wireConvertV := rfl

theorem wireRecallMemory : Statement .wireRecallMemory := rfl

theorem wireReadScratchpad : Statement .wireReadScratchpad := rfl

theorem cfgVddIad0 : Statement .cfgVddIad0 := rfl

theorem cfgVddIad1 : Statement .cfgVddIad1 := rfl

theorem cfgVadIad0 : Statement .cfgVadIad0 := rfl

theorem cfgVadIad1 : Statement .cfgVadIad1 := rfl

end Sys2Proof.Laws.InRow
end

