-- ==== Sys2Proof/Laws/Safety.lean ====
section
/-! SUPPORT. The form of the lists of steps (`script`, `waitingScript`): a step that is neither END nor the acquire step is
neutral, every program and failure course has the form, and so has what follows a byte on the wire. -/

namespace Sys2Proof.Machine

/-- Neither END nor the acquire step. -/
def Micro.plain (m : Micro) : Bool := m != .finish && m != .acquire

/-- A plain step before a list changes nothing of its form. -/
theorem script_cons_plain (m : Micro) (ms : List Micro) (h : m.plain = true) : script (m :: ms) = script ms := by
  cases ms <;> cases m <;> simp_all [Micro.plain, script]

/-- Nor do several. -/
theorem script_append_plain (ms rest : List Micro) (h : ms.all Micro.plain = true) : script (ms ++ rest) = script rest := by
  induction ms with
  | nil => rfl
  | cons m ms ih =>
    rw [List.all_cons, Bool.and_eq_true] at h
    rw [List.cons_append, script_cons_plain m _ h.1, ih h.2]

/-- A list of the form starts with a plain step and goes on in the form, or is END alone. -/
theorem script_cons_cases (m : Micro) (ms : List Micro) (h : script (m :: ms) = true) :
    (m = .finish ∧ ms = []) ∨ (m.plain = true ∧ script ms = true) := by
  cases ms with
  | nil => cases m <;> simp_all [script]
  | cons n ns => cases m <;> simp_all [script, Micro.plain]

@[simp] theorem script_finish : script [.finish] = true := rfl

theorem script_failProgram (f : Failure) : script (failProgram f) = true := by cases f <;> decide

theorem script_gpioProgram : script gpioProgram = true := by decide

theorem script_cntProgram : script cntProgram = true := by decide

theorem script_adcProgram (c : Cfg) : script (adcProgram c) = true := by
  unfold adcProgram phase2Program
  cases c.bindTemp <;> cases c.bindVdd <;> cases c.bindCurr <;> cases c.bindVad <;> decide

/-- What R87 lists after a wire command byte is a list of plain steps. -/
theorem wireByte_todo (b : Byte) (s : State) : ∃ ms, (wireByte b s).todo = ms ++ s.todo ∧ ms.all Micro.plain = true := by
  unfold wireByte
  split <;>
    simp only [wireReadRegister, wireReadMemoryCounter, wireWriteScratchpad, wireConvertT, wireConvertV, wireRecallMemory,
      wireReadScratchpad, State.push, State.busWrite, State.emit]
  all_goals first
    | exact ⟨[], rfl, rfl⟩
    | exact ⟨_, rfl, rfl⟩

/-- The byte of each wire command (R87), read back from the decoder. -/
theorem decodeWire_byte (b : Byte) :
    (decodeWire b = .ok .wireReadRegister → b = 0xF0#8) ∧ (decodeWire b = .ok .wireReadMemoryCounter → b = 0xA5#8) ∧
    (decodeWire b = .ok .wireWriteScratchpad → b = 0x4E#8) ∧ (decodeWire b = .ok .wireConvertT → b = 0x44#8) ∧
    (decodeWire b = .ok .wireConvertV → b = 0xB4#8) ∧ (decodeWire b = .ok .wireRecallMemory → b = 0xB8#8) ∧
    (decodeWire b = .ok .wireReadScratchpad → b = 0xBE#8) := by
  revert b; decide +kernel

/-- A byte of the sequencer's is one `BusWrite` of it, and changes nothing else but the steps to come (R87, R88). -/
theorem wireByte_frame (b : Byte) (s : State) :
    wireByte b s = { s with events := s.events ++ [.write b], todo := (wireByte b s).todo } := by
  have h := decodeWire_byte b
  unfold wireByte
  split <;> simp_all <;> rfl

end Sys2Proof.Machine
end

