-- ==== Sys2Proof/Tests/Slice0.lean ====
section
/-! SUPPORT. Tests. Every expected value is written out from the spec: the encodings of 30_encoding.md, the vectors of
95_test_vectors.md (their ids are in the comments), or a rule. Then, for each statement with hypotheses, a state and operands
that meet them. -/

namespace Sys2Proof.Tests
open Sys2Proof Sys2Proof.Machine Sys2Proof.Claims

set_option Elab.async false

/-! ### Helpers -/

/-- The next state, if there is one. -/
def nextOf : Host.Outcome State Fault Refusal → Option State
  | .next s => some s
  | .fault _ => none
  | .refused _ => none

/-- Part of the next state. -/
def part {α : Type} (o : Host.Outcome State Fault Refusal) (f : State → α) : Option α := (nextOf o).map f

/-- The state after reset with these answers of the transport. -/
def answers (resets : List Bool) (reads : List Byte) : State :=
  { State.reset with resetTape := resets, readTape := reads }

/-- The state after reset with this BIND_GPIO. -/
def boundGpio (bind : Byte) : State := { State.reset with cfg := { Cfg.cfg0 with bindGpio := bind } }

/-- The state after reset with the scratchpad of P4, phase 1. -/
def scratch : State :=
  { State.reset with
    sp := #v[some 0x00#8, some 0x80#8, some 0x19#8, some 0x4A#8, some 0x01#8, some 0x00#8, some 0xFC#8, some 0x00#8,
      some 0x00#8] }

/-- The three GPIO_POLL vectors G14, G15 and G16. -/
def g14 : State := answers [true] [0xFE#8, 0x32#8, 0x8E#8]
def g15 : State := answers [true] [0xFE#8, 0x8E#8, 0x32#8]
def g16 : State := answers [false] []

/-- The oracle of P3, step 1. -/
def p3 : State := answers [true] (List.replicate 32 0x11#8 ++ [0x10#8, 0x27#8, 0x00#8, 0x00#8])

/-- The oracle of P4; the second phase's initial reset answers `p`. -/
def p4 (p : Bool) : State :=
  { answers [true, true, true, true, true, p, true, true, true]
      [0x00#8, 0x80#8, 0x19#8, 0x4A#8, 0x01#8, 0x00#8, 0xFC#8, 0x00#8, 0x00#8, 0x00#8, 0x00#8, 0x00#8, 0x2C#8, 0x01#8,
        0x00#8, 0x00#8, 0x00#8, 0x00#8] with
    cfg := { Cfg.cfg0 with shunt := 1 / 20 } }

/-- P4 with no general-purpose voltage channel (A12). -/
def a12 : State := { p4 true with cfg := { Cfg.cfg0 with bindVad := false } }

/-- P4b: only VAD bound. -/
def p4b : State :=
  { p4 false with cfg := { Cfg.cfg0 with bindTemp := false, bindVdd := false, bindCurr := false } }

/-- The block waiting for the bus lock with GPIO_POLL. -/
def waiting : State := { beginGpioPoll State.reset with lock := .other }

/-- A sequencer about to put a byte on the bus. -/
def sending (b : Byte) : State :=
  { beginGpioPoll State.reset with lock := .mine, todo := [.wire b, .finish] }

/-- The host about to make an access. -/
def hosting (a : HostAccess) : State := { State.reset with hostQ := [a] }

/-! ### Well-formedness (R82) -/

/-- The one check there is: an SP_LOAD index above 8 is refused. -/
theorem test_wf_smoke : (Instr.spLoad 9#8 0#8).wf = false ∧ (Instr.spLoad 255#8 0#8).wf = false ∧
    (Instr.spLoad 8#8 0#8).wf = true := by decide

/-! ### Decoding (R85, R87, R88) -/

/-- One word for each operation, with its operands in the places of R81. -/
theorem test_decode_crc_gpio :
    ∀ p ∈ [ (0x00000001#32, Instr.crcInit), (0x0000AB02#32, .crcUpdate 0xAB#8), (0x004EF303#32, .crcCheck 0x4EF3#16),
        (0x0000F710#32, .gpioDecode 0xF7#8), (0x0000F711#32, .edgeDetect 0xF7#8), (0x00000012#32, .gpioFail),
        (0x00000013#32, .gpioPoll) ], decode (.cmd p.1) = .ok p.2 := by decide

theorem test_decode_counter :
    ∀ p ∈ [ (0x00000020#32, Instr.cntPage .a), (0x00000120#32, .cntPage .b), (0x0002AB21#32, .cntLoad 2 0xAB#8),
        (0x00038021#32, .cntLoad 3 0x80#8), (0x00000022#32, .cntAssemble), (0x00000023#32, .cntClear),
        (0x00000024#32, .cntPoll .a), (0x00000124#32, .cntPoll .b) ], decode (.cmd p.1) = .ok p.2 := by decide

theorem test_decode_analog :
    ∀ p ∈ [ (0x00000130#32, Instr.adcConfig true false), (0x00000230#32, .adcConfig false true),
        (0x00000330#32, .adcConfig true true), (0x0001F031#32, .spLoad 1#8 0xF0#8), (0x00080031#32, .spLoad 8#8 0x00#8),
        (0x00000032#32, .spClear), (0x00000033#32, .adcTemp), (0x00000034#32, .adcVolt), (0x00000035#32, .adcCurr),
        (0x00000036#32, .adcPoll) ], decode (.cmd p.1) = .ok p.2 := by decide

theorem test_decode_wire :
    ∀ p ∈ [ (0xF0#8, Instr.wireReadRegister), (0xA5#8, .wireReadMemoryCounter), (0x4E#8, .wireWriteScratchpad),
        (0x44#8, .wireConvertT), (0xB4#8, .wireConvertV), (0xB8#8, .wireRecallMemory), (0xBE#8, .wireReadScratchpad),
        (0x08#8, .cfgVddIad0), (0x09#8, .cfgVddIad1), (0x00#8, .cfgVadIad0), (0x01#8, .cfgVadIad1) ],
      decode (.wire p.1) = .ok p.2 := by decide

/-- One word of each family, bit by bit: C, B, A, OPC. -/
theorem test_decode_bits :
    decode (.cmd 0b00000000_01001110_11110011_00000011#32) = .ok (.crcCheck 0x4EF3#16) ∧
    decode (.cmd 0b00000000_00000000_11110111_00010001#32) = .ok (.edgeDetect 0xF7#8) ∧
    decode (.cmd 0b00000000_00000010_10101011_00100001#32) = .ok (.cntLoad 2 0xAB#8) ∧
    decode (.cmd 0b00000000_00000110_10000000_00110001#32) = .ok (.spLoad 6#8 0x80#8) ∧
    decode (.wire 0b10100101#8) = .ok .wireReadMemoryCounter ∧ decode (.wire 0b00001001#8) = .ok .cfgVddIad1 := by decide

/-- E8 to E20: the illegal words, by name. -/
theorem test_decode_illegal :
    (∀ w ∈ [0x00000000#32, 0x000000FF#32, 0x00000004#32], decode (.cmd w) = .error .unknownOpc) ∧
    (∀ w ∈ [0x00000101#32, 0x01000003#32, 0x00010002#32, 0x00000220#32, 0x00040021#32, 0x00000430#32, 0x00010013#32,
      0x80000036#32], decode (.cmd w) = .error .reservedBit) ∧
    (∀ w ∈ [0x00090031#32, 0x00FF0031#32], decode (.cmd w) = .error .indexRange) ∧
    decode (.wire 0xCC#8) = .error .unknownWireByte := by
  simp [decode, decodeCmd, decodeWire, lookupOp, opRows, opRowsCrcGpio, opRowsCntAdc, opcField, wireRows, aField,
    bField, Instr.wf]

/-- The bits as spec/opcode_table.json numbers them. -/
theorem test_decode_table_word :
    decodeTableWord 32 0x0002AB21 = some (.cntLoad 2 0xAB#8) ∧ decodeTableWord 8 0xF0 = some .wireReadRegister ∧
    decodeTableWord 32 0x00090031 = none ∧ decodeTableWord 16 1 = none := by decide

/-- R60: four bytes are an operation word low byte first; no other length is an instruction (R80). -/
theorem test_decode_bytes :
    decodeBytes [0x21#8, 0xAB#8, 0x02#8, 0x00#8] = .ok (.cntLoad 2 0xAB#8) ∧
    decodeBytes [0x21#8, 0xAB#8, 0x02#8] = .error .badLength ∧ decodeBytes [] = .error .badLength := by decide

/-! ### Assembler (R89 to R91) -/

theorem test_assemble_words :
    assembleCodes "CNT_LOAD 2, 0xAB ; a comment".toList = .ok [.cmd 0x0002AB21#32] ∧
    assembleCodes "CRC_CHECK 0x4EF3".toList = .ok [.cmd 0x004EF303#32] ∧
    assembleCodes "ADC_CONFIG VAD, IAD1".toList = .ok [.cmd 0x00000230#32] ∧
    assembleCodes "CNT_CYCLE".toList = .ok [.cmd 0x00000024#32, .cmd 0x00000124#32] := by decide

theorem test_assemble_pseudo :
    assembleCodes "GPIO_CRC 0xFF".toList =
      .ok [.cmd 0x00000001#32, .cmd 0x0000F002#32, .cmd 0x00008802#32, .cmd 0x00000002#32, .cmd 0x0000FF02#32] ∧
    assembleLine "CNT_BYTES 1, 0, 0, 0x80".toList =
      .ok [.cntLoad 0 1#8, .cntLoad 1 0#8, .cntLoad 2 0#8, .cntLoad 3 0x80#8] := by decide

/-- P5, step 2. -/
theorem test_assemble_sp_bytes :
    assembleCodes "SP_BYTES 0x00, 0xF0, 0xFF, 0xFF, 0xFF, 0x00, 0x80, 0x00, 0x00".toList =
      .ok [.cmd 0x00000031#32, .cmd 0x0001F031#32, .cmd 0x0002FF31#32, .cmd 0x0003FF31#32, .cmd 0x0004FF31#32,
        .cmd 0x00050031#32, .cmd 0x00068031#32, .cmd 0x00070031#32, .cmd 0x00080031#32] := by decide

/-- R89: "A value out of range is an assembly error, never truncated". -/
theorem test_assemble_errors :
    assembleCodes "CRC_UPDATE 256".toList = .error .outOfRange ∧ assembleCodes "SP_LOAD 9, 0".toList = .error .outOfRange ∧
    assembleCodes "CNT_LOAD 4, 0".toList = .error .outOfRange ∧ assembleCodes "CNT_PAGE C".toList = .error .badOperand ∧
    assembleCodes "GPIO_POLL 1".toList = .error .operandCount ∧ assembleCodes "NOP".toList = .error .unknownMnemonic := by
  decide

/-! ### CRC unit -/

/-- C1, C5, C8b, and the sequence C9c with C16's last byte. -/
theorem test_crc_folds :
    crc16Update 0xA001#16 0xFFFF#16 0x00#8 = 0x40BF#16 ∧ crc16Update 0xA001#16 0xFFFF#16 0xF0#8 = 0x04BF#16 ∧
    crc16Update 0xA001#16 0x0000#16 0x80#8 = 0xA001#16 ∧
    crc16 0xA001#16 0xFFFF#16 [0xF0#8, 0x88#8, 0x00#8, 0xF7#8] = 0x88F2#16 := by decide +kernel

/-- R106(c), and R106(b) on C16. -/
theorem test_crc_check_value_and_residue :
    crc16 0xA001#16 0xFFFF#16 [0x31#8, 0x32#8, 0x33#8, 0x34#8, 0x35#8, 0x36#8, 0x37#8, 0x38#8, 0x39#8] = 0x4B37#16 ∧
    crc16 0xA001#16 0xFFFF#16 [0xF0#8, 0x88#8, 0x00#8, 0xF7#8, 0xF2#8, 0x88#8] = 0x0000#16 := by decide +kernel

/-- C20. -/
theorem test_crcInit : part (exec .crcInit { State.reset with crcAcc := 0x1234#16 }) (fun t => (t.crcAcc, t.result)) =
    some (0xFFFF#16, 0x0000FFFF#32) := by decide

/-- C21. -/
theorem test_crcUpdate : part (exec (.crcUpdate 0xF0#8) State.reset) (fun t => (t.crcAcc, t.result)) =
    some (0x04BF#16, 0x000004BF#32) := by decide

/-- C22 to C24. -/
theorem test_crcCheck : ∀ p ∈ [(0x4EF3#16, true), (0xF34E#16, false)],
    part (exec (.crcCheck p.1) { State.reset with crcAcc := 0x4EF3#16 }) (fun t => (t.crcOk, t.crcAcc, t.result)) =
      some (p.2, 0x4EF3#16, 0x00004EF3#32) := by
  simp [part, nextOf, exec, execCrcCheck, crcMatches, State.setResult, State.setCrcOk, zext16, State.reset,
    State.atReset, Cfg.cfg0]

/-- C9e and C9f: another CRC_SEED, and another CRC_OUT_XOR (0x44C2 ^ 0xFFFF = 0xBB3D). -/
theorem test_crc_parameters :
    part (exec .crcInit { State.reset with cfg := { Cfg.cfg0 with crcSeed := 0x0000#16 } }) State.crcAcc = some 0x0000#16 ∧
    crc16 0xA001#16 0x0000#16 [0x31#8, 0x32#8, 0x33#8, 0x34#8, 0x35#8, 0x36#8, 0x37#8, 0x38#8, 0x39#8] = 0xBB3D#16 ∧
    part (exec (.crcCheck 0x44C2#16)
      { State.reset with crcAcc := 0xBB3D#16, cfg := { Cfg.cfg0 with crcOutXor := 0xFFFF#16 } }) State.crcOk = some true := by
  decide +kernel

/-- R7, R58: a wait lasts no less than its minimum and, where T_WAIT_MAX is given, no more than that. -/
theorem test_wait_bounds :
    WaitName.tConvV.admits Cfg.cfg0 99 = false ∧ WaitName.tConvV.admits Cfg.cfg0 100000 = true ∧
    WaitName.tConvV.admits { Cfg.cfg0 with tWaitMaxMs := some 120 } 120 = true ∧
    WaitName.tConvV.admits { Cfg.cfg0 with tWaitMaxMs := some 120 } 121 = false := by decide

/-! ### GPIO unit -/

/-- G1 to G4. -/
theorem test_gpioDecode : ∀ p ∈ [(0xFF#8, 0x00#32), (0x00#8, 0xFF#32), (0xF7#8, 0x08#32), (0x5A#8, 0xA5#32)],
    part (exec (.gpioDecode p.1) State.reset) State.result = some p.2 := by
  simp [part, nextOf, exec, execGpioDecode, State.setResult, zext8]

/-- G7. -/
theorem test_edgeDetect_bound :
    part (exec (.edgeDetect 0xFF#8) { boundGpio 0x0F#8 with retained := 0x00#8 })
      (fun t => (t.retained, t.result, t.events)) =
    some (0xFF#8, 0x0F#32, [.publish (.gpio 0) (.bool false), .publish (.gpio 1) (.bool false),
      .publish (.gpio 2) (.bool false), .publish (.gpio 3) (.bool false)]) := by decide

/-- G11. -/
theorem test_edgeDetect_unbound :
    part (exec (.edgeDetect 0xFE#8) (boundGpio 0xFE#8)) (fun t => (t.retained, t.result, t.events)) =
      some (0xFE#8, 0x00#32, []) := by decide

/-- G12. -/
theorem test_gpioFail : part (exec .gpioFail (boundGpio 0x05#8)) (fun t => (t.retained, t.events)) =
    some (0xFF#8, [.publish (.gpio 0) .unavailable, .publish (.gpio 2) .unavailable]) := by decide

/-- G14. -/
theorem test_gpioPoll_valid : part (exec .gpioPoll g14) (fun t => (t.retained, t.crcAcc, statusWord t, t.events)) =
    some (0xFE#8, 0x8E32#16, 0x00000003#32, [.reset true, .select 0x29#64, .write 0xF0#8, .write 0x88#8, .write 0x00#8,
      .read 0xFE#8, .read 0x32#8, .read 0x8E#8, .publish (.gpio 0) (.bool true)]) := by decide +kernel

/-- G15. -/
theorem test_gpioPoll_mismatch :
    part (exec .gpioPoll g15) (fun t => (t.retained, t.crcAcc, statusWord t, t.events.length)) =
      some (0xFF#8, 0x8E32#16, 0x00000022#32, 16) := by decide +kernel

/-! ### Counter unit -/

/-- R150. -/
theorem test_cntPage : part (exec (.cntPage .b) State.reset) State.result = some 0x000001E0#32 := by decide

/-- P3, step 4. -/
theorem test_cntLoad : part (exec (.cntLoad 3 0x80#8) State.reset) State.cntLatch =
    some #v[none, none, none, some 0x80#8] := by decide

/-- P3, step 5. -/
theorem test_cntAssemble :
    part (exec .cntAssemble { State.reset with cntLatch := #v[some 0x10#8, some 0x27#8, some 0x00#8, some 0x80#8] })
      (fun t => (t.result, t.fault)) = some (0x80002710#32, 0x00#8) := by decide

/-- F13. -/
theorem test_cntAssemble_unwritten : part (exec .cntAssemble State.reset) (fun t => (t.result, t.fault)) =
    some (0x00000000#32, 0x02#8) := by decide

theorem test_cntClear :
    part (exec .cntClear { State.reset with cntLatch := #v[some 0x10#8, some 0x27#8, some 0x00#8, none] })
      State.cntLatch = some #v[none, none, none, none] := by decide

/-- P3, step 1. -/
theorem test_cntPoll_a :
    part (exec (.cntPoll .a) p3) (fun t => (statusWord t, t.readPos, t.sinkHistory)) =
      some (0x00000002#32, 36, [(.cntA, .num 10000)]) ∧
    part (exec (.cntPoll .a) p3) State.cntLatch = some #v[some 0x10#8, some 0x27#8, some 0x00#8, some 0x00#8] ∧
    part (exec (.cntPoll .a) p3) (fun t => t.events.take 5) =
      some [.reset true, .select 0x1D#64, .write 0xA5#8, .write 0xC0#8, .write 0x01#8] := by decide +kernel

/-- P3, step 2. -/
theorem test_cntPoll_b_unreachable :
    part (exec (.cntPoll .b) g16) (fun t => (statusWord t, t.events)) = some (0x00000010#32, [.reset false]) := by
  decide +kernel

/-! ### Analog unit -/

/-- A1 to A4. -/
theorem test_adcConfig : ∀ p ∈ [(true, false, 0x08#32), (true, true, 0x09#32), (false, false, 0x00#32), (false, true, 0x01#32)],
    part (exec (.adcConfig p.1 p.2.1) State.reset) State.result = some p.2.2 := by
  simp [part, nextOf, exec, execAdcConfig, cfgByte, State.setResult, zext8]

theorem test_spLoad : part (exec (.spLoad 8#8 0x5A#8) State.reset) State.sp =
    some #v[none, none, none, none, none, none, none, none, some 0x5A#8] := by decide

theorem test_spClear : part (exec .spClear scratch) State.sp = some (Vector.replicate 9 none) := by decide

/-- A9 and A6. -/
theorem test_adcTemp :
    part (exec .adcTemp scratch) State.result = some 0x00001980#32 ∧
    part (exec .adcTemp { scratch with sp := (scratch.sp.set 1 (some 0x00#8)).set 2 (some 0xFF#8) }) State.result =
      some 0xFFFFFF00#32 := by decide

/-- A10b and A11i. -/
theorem test_adcVolt :
    part (exec .adcVolt scratch) State.result = some 0x0000014A#32 ∧
    part (exec .adcVolt { State.reset with sp := State.reset.sp.set 3 (some 0xF4#8) }) (fun t => (t.fault, t.result)) =
      some (0x02#8, 0#32) := by decide

/-- A11g. -/
theorem test_adcCurr : part (exec .adcCurr scratch) State.result = some 0xFFFFFC00#32 := by decide

/-- A9, A10b and A11g, and the sink's conversion, here to whole numbers. -/
theorem test_readings :
    scratch.reading .temp = some (51 / 2) ∧ scratch.reading .vdd = some (33 / 10) ∧
    { scratch with cfg := { Cfg.cfg0 with shunt := 1 / 20 } }.reading .curr = some (-78112 / 15625) ∧
    (Value.num (51 / 2)).toSink Rat.floor = .num 25 := by decide +kernel

/-- P4. -/
theorem test_adcPoll_two_phases :
    part (exec .adcPoll (p4 true)) (fun t => (t.sinkHistory, statusWord t, t.events.length, t.readPos)) =
      some ([(.temp, .num (51 / 2)), (.vdd, .num (33 / 10)), (.curr, .num (-78112 / 15625)), (.vad, .num 3)],
        0x00000002#32, 64, 18) := by decide +kernel

/-- P4b. -/
theorem test_adcPoll_phase2_unreachable :
    part (exec .adcPoll p4b) (fun t => (t.sinkHistory, statusWord t, t.events.length, t.sp == scratch.sp)) =
      some ([], 0x00000040#32, 33, true) := by decide +kernel

/-! ### Bytes on the wire (R87, R88) -/

theorem test_wireReadRegister : part (exec .wireReadRegister State.reset) (fun t => (t.events, t.todo.take 2)) =
    some ([.write 0xF0#8], [.write 0x88#8, .write 0x00#8]) := by decide

theorem test_wireReadMemoryCounter :
    part (exec .wireReadMemoryCounter { State.reset with work := { Work.none with sel := .b } })
      (fun t => (t.events, t.todo.take 2, t.todo.length)) =
    some ([.write 0xA5#8], [.write 0xE0#8, .write 0x01#8], 38) := by decide

/-- A17: 0x01 in phase 2. -/
theorem test_wireWriteScratchpad :
    part (exec .wireWriteScratchpad { State.reset with work := { Work.none with phase := .two } })
      (fun t => (t.events, t.todo)) = some ([.write 0x4E#8], [.write 0x00#8, .wire 0x01#8]) := by decide

theorem test_wireReadScratchpad : part (exec .wireReadScratchpad State.reset) (fun t => (t.events, t.todo.length)) =
    some ([.write 0xBE#8], 10) := by decide

theorem test_wire_others : ∀ p ∈ [(Instr.wireConvertT, 0x44#8), (.wireConvertV, 0xB4#8), (.wireRecallMemory, 0xB8#8),
    (.cfgVddIad0, 0x08#8), (.cfgVddIad1, 0x09#8), (.cfgVadIad0, 0x00#8), (.cfgVadIad1, 0x01#8)],
    part (exec p.1 State.reset) State.events = some [.write p.2] := by decide

/-! ### Steps, host and faults -/

/-- An operation word placed where the next one comes from is run as the first one after reset. -/
theorem test_step_withFetchWord_cmd :
    part (step (State.reset.withFetchWord 32 0x0000F702)) State.crcAcc = some (crc16Update 0xA001#16 0xFFFF#16 0xF7#8) := by decide

theorem test_step_withFetchWord_wire : part (step (State.reset.withFetchWord 8 0xA5)) (fun t => (t.events, t.todo.length)) =
    some ([.write 0xA5#8], 39) := by decide

/-- F4 and F14: an illegal word writes FAULT and nothing else, and is checked before the latch. -/
theorem test_step_illegal_word : ∀ w ∈ [0x00000000, 0x00010022],
    nextOf (step (State.reset.withFetchWord 32 w)) = some { State.reset with fault := 0x01#8 } := by decide +kernel

/-- F6: the host reads STATUS of a faulted block. -/
theorem test_step_status_read :
    part (step { hosting (.read 32 0x00) with fault := 0x01#8 }) State.hostReplies = some [(0x00, 0x00000100#32)] := by decide

/-- F1 to F3. -/
theorem test_reset_ill_formed : ∀ c ∈ [{ Cfg.cfg0 with shunt := 0 }, { Cfg.cfg0 with shunt := -1 },
    { Cfg.cfg0 with cntValidate := true }], statusWord (State.atReset c) = 0x00000300#32 := by decide +kernel

/-- F12: reset in the middle of a GPIO_POLL. -/
theorem test_reset_mid_poll :
    part (step { microSteps 9 (beginGpioPoll { g14 with retained := 0x12#8 }) with sched := [.reset] })
      (fun t => (t.busy, t.retained, t.events, t.lock)) = some (false, 0xFF#8, [], .free) := by decide +kernel

/-! ### States and operands that meet the statements' hypotheses -/

theorem ready_reset : State.reset.Ready := ⟨rfl, rfl, rfl, rfl, rfl⟩
theorem inv_reset : State.reset.Inv :=
  ⟨.inl ⟨rfl, rfl, nofun, rfl, rfl⟩, by decide, by decide +kernel, by decide +kernel⟩
theorem inv_waiting : waiting.Inv :=
  ⟨.inr ⟨rfl, nofun, by decide +kernel, .inr ⟨nofun, by decide⟩⟩, by decide, by decide +kernel, by decide +kernel⟩

/-- WordIsLegalOrFaults: the highest legal index and the lowest illegal one. -/
theorem witness_WordIsLegalOrFaults : Legal 0x00080031#32 ∧ ¬ Legal 0x00090031#32 := by
  unfold Legal; decide

/-- DecodeOfEncode and EncodeOfDecode, at the boundary of the one check. -/
theorem witness_DecodeOfEncode : (Instr.spLoad 8#8 0xFF#8).wf = true := by decide
theorem witness_EncodeOfDecode : decode (.cmd 0x0008FF31#32) = .ok (.spLoad 8#8 0xFF#8) ∧
    decode (.wire 0x01#8) = .ok .cfgVadIad1 := by decide

/-- CrcAffineResidueAndCheckValue (a): C9h. -/
theorem witness_CrcAffineResidueAndCheckValue :
    ([0x01#8, 0x02#8, 0x03#8, 0x04#8] : List Byte).length = ([0x09#8, 0x08#8, 0x07#8, 0x06#8] : List Byte).length := rfl

/-- `ReservedBitsFault` of every operation: its OPC with its lowest reserved bit set, and with C[7] set. -/
theorem witness_ReservedBitsFault :
    ∀ r ∈ [ (0x00000001#32, 0xFFFFFFFF#32, 0x00000101#32), (0x00000002#32, 0xFFFF00FF#32, 0x00010002#32),
        (0x00000003#32, 0xFF0000FF#32, 0x01000003#32), (0x00000010#32, 0xFFFF00FF#32, 0x00010010#32),
        (0x00000011#32, 0xFFFF00FF#32, 0x00010011#32), (0x00000012#32, 0xFFFFFFFF#32, 0x00000112#32),
        (0x00000020#32, 0xFFFFFEFF#32, 0x00000220#32), (0x00000021#32, 0xFFFC00FF#32, 0x00040021#32),
        (0x00000022#32, 0xFFFFFFFF#32, 0x00000122#32), (0x00000023#32, 0xFFFFFFFF#32, 0x00000123#32),
        (0x00000030#32, 0xFFFFFCFF#32, 0x00000430#32), (0x00000031#32, 0xFF0000FF#32, 0x01000031#32),
        (0x00000032#32, 0xFFFFFFFF#32, 0x00000132#32), (0x00000033#32, 0xFFFFFFFF#32, 0x00000133#32),
        (0x00000034#32, 0xFFFFFFFF#32, 0x00000134#32), (0x00000035#32, 0xFFFFFFFF#32, 0x00000135#32) ],
      (r.2.2.extractLsb' 0 8 = r.1.extractLsb' 0 8 ∧ r.2.2 &&& r.2.1 ≠ r.1) ∧
      ((r.2.2 ||| 0x80000000#32).extractLsb' 0 8 = r.1.extractLsb' 0 8 ∧ (r.2.2 ||| 0x80000000#32) &&& r.2.1 ≠ r.1) := by
  simp

theorem witness_GpioPollBusUnreachable : g16.Ready ∧ g16.resetAnswer 0 = false := ⟨⟨rfl, rfl, rfl, rfl, rfl⟩, rfl⟩

theorem witness_GpioPollChecksumMismatch : g15.Ready ∧ g15.resetAnswer 0 = true ∧
    ¬ TrailerMatches g15 := ⟨⟨rfl, rfl, rfl, rfl, rfl⟩, rfl, by unfold TrailerMatches; decide +kernel⟩

theorem witness_GpioPollPublishesValidSnapshot : g14.Ready ∧ g14.resetAnswer 0 = true ∧
    TrailerMatches g14 := ⟨⟨rfl, rfl, rfl, rfl, rfl⟩, rfl, by unfold TrailerMatches; decide +kernel⟩

/-- GPIO_POLL taken step by step, two steps in: the next step makes the first event. -/
def begun : State := microSteps 2 (beginGpioPoll g14)

theorem witness_GpioPollEventsInTheirStep :
    g14.Ready ∧ g14.sched = [] ∧ g14.hostQ = [] ∧ Sys2Proof.core.run 2 (beginGpioPoll g14) = .next begun ∧
    step begun = .next (microStep begun) ∧ (microStep begun).events = begun.events ++ [.reset true] :=
  ⟨⟨rfl, rfl, rfl, rfl, rfl⟩, rfl, rfl, rfl, rfl, by decide +kernel⟩

/-- Two GPIO_POLL cycles of P2 (cycles 4 and 5). -/
def twice : State := answers [true, true] [0xF7#8, 0xF2#8, 0x88#8, 0xF7#8, 0xF2#8, 0x88#8]
def once : State := microSteps pollFuel (beginGpioPoll twice)

theorem witness_GpioPollRepeatedSnapshotIsSilent :
    twice.Ready ∧ ∃ t u, exec .gpioPoll twice = .next t ∧ t.outcome = 0#4 ∧ exec .gpioPoll t = .next u ∧ u.outcome = 0#4 ∧
      u.retained = t.retained :=
  ⟨⟨rfl, rfl, rfl, rfl, rfl⟩, once, microSteps pollFuel (beginGpioPoll once), rfl, by decide +kernel, rfl,
    by decide +kernel, by decide +kernel⟩

/-- One failed cycle (P2, cycle 3) and a successful one after it (cycle 4). -/
def failing : State := answers [false, true] [0xF7#8, 0xF2#8, 0x88#8]
def failed : State := microSteps pollFuel (beginGpioPoll failing)

theorem witness_GpioEdgesSkipFailedCycles :
    failing.Ready ∧
    (∃ path : Nat → State, path 0 = failing ∧ path 1 = failed ∧
      ∀ k < 1, exec .gpioPoll (path k) = .next (path (k + 1)) ∧ (path (k + 1)).outcome ≠ 0#4) ∧
    ∃ u, exec .gpioPoll failed = .next u ∧ u.outcome = 0#4 := by
  refine ⟨⟨rfl, rfl, rfl, rfl, rfl⟩, ⟨fun | 0 => failing | _ + 1 => failed, rfl, rfl, ?_⟩,
    microSteps pollFuel (beginGpioPoll failed), rfl, by decide +kernel⟩
  intro k hk
  obtain rfl : k = 0 := by omega
  exact ⟨rfl, by decide +kernel⟩

/-- CntAssembleLittleEndianOrFaults: all bytes at their greatest value, and the last byte unwritten. -/
theorem witness_CntAssembleLittleEndianOrFaults :
    { State.reset with cntLatch := #v[some 0xFF#8, some 0xFF#8, some 0xFF#8, some 0xFF#8] }.cntLatch =
      #v[some 0xFF#8, some 0xFF#8, some 0xFF#8, some 0xFF#8] ∧
    ∃ k : Fin 4, { State.reset with cntLatch := #v[some 0xFF#8, some 0xFF#8, some 0xFF#8, none] }.cntLatch[k] = none :=
  ⟨rfl, 3, rfl⟩

/-- CntClearEmptiesLatch and SpClearEmptiesScratchpad: a state that CNT_CLEAR, and one that SP_CLEAR, answers. -/
theorem witness_ClearThenRead : (∃ t, exec .cntClear State.reset = .next t) ∧ ∃ t, exec .spClear scratch = .next t :=
  ⟨⟨_, rfl⟩, _, rfl⟩

theorem witness_CntPollUnboundSkips :
    (counterSink { State.reset with cfg := { Cfg.cfg0 with bindCntB := false } }.cfg .b).2 = false := rfl

theorem witness_CntPollBusUnreachable :
    g16.Ready ∧ (counterSink g16.cfg .a).2 = true ∧ (counterSink g16.cfg .b).2 = true ∧ g16.resetAnswer 0 = false :=
  ⟨⟨rfl, rfl, rfl, rfl, rfl⟩, rfl, rfl, rfl⟩

theorem witness_CntPollPublishesCounter :
    p3.Ready ∧ (counterSink p3.cfg .a).2 = true ∧ (counterSink p3.cfg .b).2 = true ∧ p3.resetAnswer 0 = true :=
  ⟨⟨rfl, rfl, rfl, rfl, rfl⟩, rfl, rfl, rfl⟩

/-- ScratchpadDecodes and the three decode operations: the least s16 (A7), the greatest u16 (A10c) and the greatest s16 (A11e). -/
def extremes : State :=
  { State.reset with
    sp := #v[none, some 0x00#8, some 0x80#8, some 0xFF#8, some 0xFF#8, some 0xFF#8, some 0x7F#8, none, none] }

theorem witness_ScratchpadDecodes :
    (extremes.sp[1] = some 0x00#8 ∧ extremes.sp[2] = some 0x80#8) ∧ (extremes.sp[3] = some 0xFF#8 ∧
      extremes.sp[4] = some 0xFF#8) ∧ (extremes.sp[5] = some 0xFF#8 ∧ extremes.sp[6] = some 0x7F#8) :=
  ⟨⟨rfl, rfl⟩, ⟨rfl, rfl⟩, ⟨rfl, rfl⟩⟩

/-- AdcTempReadsSignedOrFaults, AdcVoltReadsUnsignedOrFaults and AdcCurrReadsSignedOrFaults, where they fault: one of the two
bytes unwritten. -/
theorem witness_AdcReadsFault :
    ({ extremes with sp := extremes.sp.set 2 none }.sp[1] ≠ none ∧ { extremes with sp := extremes.sp.set 2 none }.sp[2] = none) ∧
    { extremes with sp := extremes.sp.set 3 none }.sp[3] = none ∧
    { extremes with sp := extremes.sp.set 6 none }.sp[6] = none := by decide

theorem witness_SpLoadWritesScratchpadByte :
    (0x00090031#32).extractLsb' 0 8 = 0x31#8 ∧ 8 < ((0x00090031#32).extractLsb' 16 8).toNat := by decide

theorem witness_AdcPollBusUnreachable : g16.Ready ∧ g16.resetAnswer 0 = false := ⟨⟨rfl, rfl, rfl, rfl, rfl⟩, rfl⟩

theorem witness_AdcPollOnePhase : a12.Ready ∧ a12.cfg.bindVad = false ∧ a12.resetAnswer 0 = true :=
  ⟨⟨rfl, rfl, rfl, rfl, rfl⟩, rfl, rfl⟩

theorem witness_AdcPollTwoPhases : (p4 true).Ready ∧ (p4 true).cfg.bindVad = true ∧ (p4 true).resetAnswer 0 = true ∧
    (p4 true).resetAnswer 5 = true := ⟨⟨rfl, rfl, rfl, rfl, rfl⟩, rfl, rfl, rfl⟩

theorem witness_AdcPollPhase2Unreachable : p4b.Ready ∧ p4b.cfg.bindVad = true ∧ p4b.resetAnswer 0 = true ∧
    p4b.resetAnswer 5 = false := ⟨⟨rfl, rfl, rfl, rfl, rfl⟩, rfl, rfl, rfl⟩

/-- The statements over R7's CRC parameters. -/
theorem witness_DefaultCrc : DefaultCrc State.reset.cfg := ⟨rfl, rfl, rfl⟩

/-- AdcPollWaitTotals: its three totals, and durations that are admitted, with and without a T_WAIT_MAX. -/
theorem witness_AdcPollWaitTotals :
    (p4 true).Ready ∧ p4b.Ready ∧ g16.Ready ∧
    (part (exec .adcPoll (p4 true)) (fun t => waitTotal t.cfg t.events) = some 250 ∧
      part (exec .adcPoll p4b) (fun t => waitTotal t.cfg t.events) = some 130 ∧
      part (exec .adcPoll g16) (fun t => waitTotal t.cfg t.events) = some 0) ∧
    DefaultWaits (p4 true).cfg ∧
    part (exec .adcPoll (p4 true)) (fun t => admitsWaits t.cfg (waitsOf t.events) [10, 10, 100, 10, 10, 100, 12]) = some true ∧
    admitsWaits { Cfg.cfg0 with tWaitMaxMs := some 100 } [.tCfg, .tConvV] [10, 100] = true :=
  ⟨⟨rfl, rfl, rfl, rfl, rfl⟩, ⟨rfl, rfl, rfl, rfl, rfl⟩, ⟨rfl, rfl, rfl, rfl, rfl⟩, by decide +kernel,
    ⟨rfl, rfl, rfl, rfl⟩, by decide +kernel, by decide⟩

theorem witness_StepRunsAcceptedOperation :
    State.reset.sched = [] ∧ State.reset.busy = false ∧ State.reset.fault = 0#8 ∧
      decode (.cmd 0x00000033#32) = .ok .adcTemp := ⟨rfl, rfl, by decide +kernel, by decide⟩

theorem witness_StepRunsWireByte :
    (sending 0x4E#8).todo = [.wire 0x4E#8, .finish] ∧ decode (.wire 0x4E#8) = .ok .wireWriteScratchpad ∧
    ((sending 0x4E#8).sched = [] ∧ (sending 0x4E#8).busy = true) ∧
    { sending 0x4E#8 with sched := [.block] }.todo = [.wire 0x4E#8, .finish] ∧
    { sending 0x4E#8 with sched := [.block] }.sched = [.block] := by decide

/-- HostAccessesAnsweredOrRefused: a read of the last register with the host on its turn while the block is busy, and alone;
an access just beyond it in the same two ways. -/
theorem witness_HostAccessesAnsweredOrRefused :
    (0x0C, 0#24 ++ State.reset.retained) ∈ readable State.reset ∧
    (hosting (.read 32 0x0C)).hostQ = [.read 32 0x0C] ∧ (hosting (.read 32 0x0C)).sched = [] ∧
    (hosting (.read 32 0x0C)).busy = false ∧ { waiting with sched := [.host] }.sched = [.host] ∧
    ¬ Accepted (.read 32 0x10) ∧ ¬ Accepted (.read 8 0x00) ∧ ¬ Accepted (.write 32 0x00 0#32) ∧
    Accepted (.write 32 0x10 0#32) := by
  unfold Accepted; decide +kernel

/-- CmdWriteHeldUntilAccepted: its three clauses, and the busy case beside the faulted one. -/
theorem witness_CmdWriteHeldUntilAccepted :
    (hosting (.write 32 0x10 1#32)).hostQ = [.write 32 0x10 1#32] ∧
    ({ hosting (.write 32 0x10 1#32) with sched := [.host], fault := 1#8 }.fault ≠ 0#8) ∧
    ({ waiting with hostQ := [.write 32 0x10 1#32], sched := [.host] }.busy = true) ∧
    ({ hosting (.write 32 0x10 1#32) with sched := [.host] }.fault = 0#8 ∧
      { hosting (.write 32 0x10 1#32) with sched := [.host] }.busy = false) ∧
    ({ hosting (.write 32 0x10 1#32) with fault := 1#8 }.sched = [] ∧
      { hosting (.write 32 0x10 1#32) with fault := 1#8 }.busy = false) := by decide +kernel

/-- A faulted state that the invariant admits, in which the host reads STATUS. -/
def faulted : State := { hosting (.read 32 0x00) with fault := 0x02#8 }

theorem witness_FaultIsStickyUntilReset :
    faulted.Inv ∧ faulted.fault ≠ 0#8 ∧ (∃ t, step faulted = .next t) ∧ faulted.sched.head? ≠ some .reset :=
  ⟨⟨.inl ⟨rfl, rfl, nofun, rfl, rfl⟩, by decide, by decide, by decide⟩, by decide, ⟨_, rfl⟩, by decide⟩

theorem witness_ResetAtAnyTime : { waiting with sched := [.reset, .host] }.sched = [.reset, .host] := rfl

theorem witness_InvariantKeptByStep : State.reset.Inv ∧ waiting.Inv ∧ (∃ t, step State.reset = .next t) ∧
    ∃ t, step waiting = .next t := ⟨inv_reset, inv_waiting, ⟨_, rfl⟩, ⟨_, rfl⟩⟩

theorem witness_ConfigurationNeverChanges : ∃ t, step (sending 0xF0#8) = .next t := ⟨_, rfl⟩

/-- EventHistoryOnlyGrows: with a reset and without one. -/
theorem witness_EventHistoryOnlyGrows :
    (∃ t, step (sending 0xF0#8) = .next t) ∧ (sending 0xF0#8).sched.head? ≠ some .reset ∧
    (∃ t, step { sending 0xF0#8 with sched := [.reset] } = .next t) ∧
    { sending 0xF0#8 with sched := [.reset] }.sched.head? = some .reset := ⟨⟨_, rfl⟩, by decide, ⟨_, rfl⟩, rfl⟩

/-- NoTransportCallWithoutLock, with an operation that publishes while another user holds the lock. -/
theorem witness_NoTransportCallWithoutLock :
    { hosting (.write 32 0x10 0x00000012#32) with lock := .other }.Inv ∧
    { hosting (.write 32 0x10 0x00000012#32) with lock := .other }.lock = .other ∧
    (∃ t, step { hosting (.write 32 0x10 0x00000012#32) with lock := .other } = .next t) ∧
    { hosting (.write 32 0x10 0x00000012#32) with lock := .other }.sched.head? ≠ some .reset :=
  ⟨⟨.inl ⟨rfl, rfl, nofun, rfl, rfl⟩, by decide, by decide +kernel, by decide +kernel⟩, rfl,
    ⟨{ State.reset with lock := .other, events := unavailableEvents 0xFF#8 }, rfl⟩, by decide⟩

theorem witness_PollHeldWhileLockTaken :
    (IsPoll .gpioPoll ∧ IsPoll (.cntPoll .b) ∧ IsPoll .adcPoll) ∧
    (∀ sel, Instr.cntPoll .b = .cntPoll sel → (counterSink State.reset.cfg sel).2 = true) ∧
    { State.reset with lock := .other }.lock = .other ∧ { State.reset with lock := .other }.sched = [] := by
  refine ⟨⟨.inl rfl, .inr (.inl ⟨.b, rfl⟩), .inr (.inr rfl)⟩, ?_, rfl, rfl⟩
  rintro sel ⟨⟩
  rfl

theorem witness_OnlyNamedOperationsWrite :
    (∃ t, exec (.crcUpdate 0xF0#8) State.reset = .next t) ∧ (∀ tr, Instr.crcUpdate 0xF0#8 ≠ .crcCheck tr) ∧
    (∀ v, Instr.crcUpdate 0xF0#8 ≠ .edgeDetect v) ∧ Instr.crcUpdate 0xF0#8 ≠ .gpioPoll ∧
    ¬ IsPoll (.crcUpdate 0xF0#8) ∧ IsPoll .adcPoll ∧ ∃ t, exec .adcPoll g16 = .next t :=
  ⟨⟨_, rfl⟩, nofun, nofun, nofun, (by rintro (h | ⟨_, h⟩ | h) <;> cases h), .inr (.inr rfl), ⟨_, rfl⟩⟩

theorem witness_PollEndsReadyWithoutFault : IsPoll (.cntPoll .a) ∧ g16.Ready :=
  ⟨.inr (.inl ⟨.a, rfl⟩), ⟨rfl, rfl, rfl, rfl, rfl⟩⟩

theorem witness_StepwisePollEqualsWhole :
    IsPoll .adcPoll ∧ State.reset.Ready ∧ State.reset.sched = [] ∧
      beginInstr .adcPoll State.reset = .next (beginAdcPoll State.reset) := ⟨.inr (.inr rfl), ready_reset, rfl, rfl⟩

end Sys2Proof.Tests
end

section
/-! PROOFS. Encoding (30_encoding.md): which words the decoder accepts, read off the rows of the operation map, and the settling of
O2. -/

namespace Sys2Proof.Proofs.Encoding
open Sys2Proof.Machine Sys2Proof.Claims

/-! ### The rows of the operation map -/

/-- The claims' table of R85 is the decoder's, without the operands. -/
theorem opTable_eq_map_opRows : opTable = opRows.map fun r => (r.pat, r.mask) := rfl

/-- No row leaves a bit of OPC free. -/
theorem opcField_mask_of_mem : ∀ r ∈ opRows, opcField r.mask = 0xFF#8 := by decide

/-- No two rows have one OPC, so the look-up of a row's OPC is that row. -/
theorem lookupOp_opcField_pat : ∀ r ∈ opRows, lookupOp (opcField r.pat) = some r := by
  simp only [opRows, opRowsCrcGpio, opRowsCntAdc, List.cons_append, List.nil_append, List.forall_mem_cons]
  exact ⟨rfl, rfl, rfl, rfl, rfl, rfl, rfl, rfl, rfl, rfl, rfl, rfl, rfl, rfl, rfl, rfl, rfl, rfl, rfl, nofun⟩

theorem mem_opRows_of_lookupOp {opc : Byte} {r : OpRow} (h : lookupOp opc = some r) : r ∈ opRows :=
  List.mem_of_find?_eq_some h

/-- The only operand a row bounds beyond its mask is the latch index of SP_LOAD (R82). -/
theorem build_wf_iff (a b : Byte) :
    ∀ r ∈ opRows, (r.build a b).wf = true ↔ (r.pat = 0x00000031#32 → b.toNat ≤ 8) := by
  simp [opRows, opRowsCrcGpio, opRowsCntAdc, Instr.wf]

/-! ### Words -/

theorem opcField_and (v w : Word) : opcField (v &&& w) = opcField v &&& opcField w := BitVec.extractLsb'_and

/-- A word that matches a row has that row's OPC. -/
theorem opcField_eq_of_match {w : Word} {r : OpRow} (hr : r ∈ opRows) (h : w &&& r.mask = r.pat) :
    opcField w = opcField r.pat := by
  rw [← h, opcField_and, opcField_mask_of_mem r hr]
  exact BitVec.and_allOnes.symm

/-- R82's condition, over the decoder's rows. -/
theorem legal_iff (w : Word) :
    Legal w ↔ ∃ r ∈ opRows, w &&& r.mask = r.pat ∧ (r.build (aField w) (bField w)).wf = true := by
  simp only [Legal, opTable_eq_map_opRows, List.mem_map, exists_exists_and_eq_and]
  refine exists_congr fun r => and_congr_right fun hr => and_congr_right fun _ => ?_
  exact (build_wf_iff (aField w) (bField w) r hr).symm

/-- The decoder accepts a word iff it matches a row whose operands are in range. -/
theorem decode_cmd_ok_iff (w : Word) (i : Instr) :
    decode (.cmd w) = .ok i ↔
      ∃ r ∈ opRows, w &&& r.mask = r.pat ∧ r.build (aField w) (bField w) = i ∧ i.wf = true := by
  show decodeCmd w = .ok i ↔ _
  constructor
  · intro h
    unfold decodeCmd at h
    split at h
    · cases h
    · rename_i r hr
      split_ifs at h with hmatch hwf
      cases h
      exact ⟨r, mem_opRows_of_lookupOp hr, hmatch, rfl, hwf⟩
  · rintro ⟨r, hr, hmatch, rfl, hwf⟩
    have hlook : lookupOp (opcField w) = some r := by
      rw [opcField_eq_of_match hr hmatch, lookupOp_opcField_pat r hr]
    simp only [decodeCmd, hlook, hmatch, hwf, if_true]

/-- R82: the legal words are those that decode. -/
theorem legal_iff_decode (w : Word) : Legal w ↔ ∃ i, decode (.cmd w) = .ok i := by
  simp only [legal_iff, decode_cmd_ok_iff]
  constructor
  · rintro ⟨r, hr, hmatch, hwf⟩
    exact ⟨_, r, hr, hmatch, rfl, hwf⟩
  · rintro ⟨_, r, hr, hmatch, rfl, hwf⟩
    exact ⟨r, hr, hmatch, hwf⟩

/-- Settles O2: the legal words are those that decode, and what does not decode is issued as ILLEGAL_ENCODING. -/
theorem wordIsLegalOrFaults : Obligations.WordIsLegalOrFaults := by
  intro w
  refine ⟨(legal_iff_decode w).mp, fun hill x s => ?_⟩
  rcases issue_cases x w s with ⟨_, _, hissue⟩ | ⟨i, hok, _⟩
  · exact hissue
  · exact absurd ((legal_iff_decode w).mpr ⟨i, hok⟩) hill

end Sys2Proof.Proofs.Encoding
end

section
/-! PROOFS. The words of any row of the operation map (30_encoding.md R83, R91), then the CRC unit (40_crc.md): CRC_INIT and
CRC_CHECK as whole-state equations, their words and their reserved bits, and the settling of O8 and O10. -/

namespace Sys2Proof.Proofs.Encoding
open Sys2Proof.Machine Sys2Proof.Claims

/-! ### The words of a row -/

/-- A row is determined by its OPC. -/
theorem eq_of_opcField_pat_eq {r r' : OpRow} (hr : r ∈ opRows) (hr' : r' ∈ opRows)
    (h : opcField r.pat = opcField r'.pat) : r = r' := by
  have hlook : lookupOp (opcField r'.pat) = some r := h ▸ lookupOp_opcField_pat r hr
  exact Option.some.inj (hlook.symm.trans (lookupOp_opcField_pat r' hr'))

/-- R83: a word of a row's OPC that the row does not match is no instruction, for no other row has that OPC. -/
theorem reservedBitsFault_of_mem {r : OpRow} (hr : r ∈ opRows) : ReservedBitsFault r.pat r.mask := by
  intro x w s hopc hmask
  rcases issue_cases x w s with ⟨_, _, hissue⟩ | ⟨i, hok, _⟩
  · exact hissue
  · obtain ⟨r', hr', hmatch, _, _⟩ := (decode_cmd_ok_iff w i).mp hok
    have hrr : r' = r := eq_of_opcField_pat_eq hr' hr ((opcField_eq_of_match hr' hmatch).symm.trans hopc)
    exact absurd (hrr ▸ hmatch) hmask

/-- A word in R91's layout that matches a row decodes to the row's operation on the word's two operand bytes. -/
theorem decode_cmdWord {r : OpRow} (hr : r ∈ opRows) {opc a b : Byte} (hmatch : cmdWord opc a b &&& r.mask = r.pat)
    (hwf : (r.build a b).wf = true) : decode (.cmd (cmdWord opc a b)) = .ok (r.build a b) := by
  refine (decode_cmd_ok_iff _ _).mpr ⟨r, hr, hmatch, ?_, hwf⟩
  rw [aField_cmdWord, bField_cmdWord]

/-- R91's layout as a number. -/
theorem toNat_cmdWord (opc a b : Byte) :
    (cmdWord opc a b).toNat = opc.toNat + 256 * a.toNat + 65536 * b.toNat := by
  have hlow : (a ++ opc).toNat = opc.toNat + 256 * a.toNat := toNat_append_byte a opc
  have hhigh : (0#8 ++ b).toNat = b.toNat := toNat_append_byte 0#8 b
  rw [cmdWord, BitVec.toNat_append, ← Nat.shiftLeft_add_eq_or_of_lt (a ++ opc).isLt, Nat.shiftLeft_eq, hlow, hhigh]
  omega

/-- R91's word of a 16-bit operand `{B, A}`, written with a shift. -/
theorem or_shiftLeft_eq_cmdWord (opc a b : Byte) :
    opc.setWidth 32 ||| ((b ++ a : Half).setWidth 32 <<< 8) = cmdWord opc a b := by
  apply BitVec.eq_of_toNat_eq
  have hopc : (opc.setWidth 32).toNat = opc.toNat := BitVec.toNat_setWidth_of_le (by decide)
  have hshift : ((b ++ a : Half).setWidth 32 <<< 8).toNat = (a.toNat + 256 * b.toNat) <<< 8 := by
    rw [BitVec.toNat_shiftLeft, BitVec.toNat_setWidth_of_le (by decide), toNat_append_byte b a]
    exact Nat.mod_eq_of_lt (by simp only [Nat.shiftLeft_eq]; omega)
  rw [BitVec.toNat_or, hopc, hshift, toNat_cmdWord, Nat.or_comm, ← Nat.shiftLeft_add_eq_or_of_lt opc.isLt, Nat.shiftLeft_eq]
  omega

end Sys2Proof.Proofs.Encoding

namespace Sys2Proof.Proofs.Crc
open Sys2Proof.Machine Sys2Proof.Claims Sys2Proof.Proofs.Encoding

/-- `zext_32` of a u16 puts sixteen zero bits above it (R11). -/
theorem zext16_eq_append (h : Half) : zext16 h = 0#16 ++ h := by
  simp [zext16, BitVec.setWidth_eq_append]

/-! ### CRC_INIT (R101) -/

theorem exec_crcInit (s : State) :
    exec .crcInit s = .next { s with crcAcc := s.cfg.crcSeed, result := 0#16 ++ s.cfg.crcSeed } := by
  rw [← zext16_eq_append]
  rfl

/-- Settles O8: the seed is R7's where the configuration is the default one, and the mask of the row leaves no bit free. -/
theorem crcInitSeedsAccumulator : Obligations.CrcInitSeedsAccumulator := by
  refine ⟨exec_crcInit, fun s hdef => ?_, rfl, reservedBitsFault_of_mem (r := opRows[0]) (List.getElem_mem _)⟩
  obtain ⟨hseed, _, _⟩ := hdef
  rw [exec_crcInit, hseed]
  rfl

/-! ### CRC_CHECK (R103) -/

theorem exec_crcCheck (s : State) (t : Half) :
    exec (.crcCheck t) s =
      .next { s with crcOk := decide (s.crcAcc ^^^ s.cfg.crcOutXor = t), result := 0#16 ++ s.crcAcc } := by
  rw [← zext16_eq_append]
  rfl

/-- R81: the trailer operand is `{B, A}`, and the row of CRC_CHECK leaves both bytes free. -/
theorem decode_cmdWord_crcCheck (a b : Byte) : decode (.cmd (cmdWord 0x03#8 a b)) = .ok (.crcCheck (b ++ a)) := by
  have hmatch : cmdWord 0x03#8 a b &&& opRows[2].mask = opRows[2].pat := by
    rw [cmdWord_and]
    simp [cmdWord, opRows, opRowsCrcGpio]
  exact decode_cmdWord (List.getElem_mem _) hmatch rfl

/-- Settles O10: the final XOR is absent where the configuration is the default one; every trailer is an operand, low byte in A. -/
theorem crcCheckComparesTrailer : Obligations.CrcCheckComparesTrailer := by
  refine ⟨exec_crcCheck, fun s t hdef => ?_, fun a b => ?_,
    reservedBitsFault_of_mem (r := opRows[2]) (List.getElem_mem _)⟩
  · obtain ⟨_, _, hxor⟩ := hdef
    rw [exec_crcCheck, hxor, BitVec.xor_zero]
  · exact or_shiftLeft_eq_cmdWord 0x03#8 a b ▸ decode_cmdWord_crcCheck a b

end Sys2Proof.Proofs.Crc
end

section
/-! PROOFS. The GPIO unit (41_gpio_edge.md). First the publishes of R123 and R124 as the claims write them out, and GPIO_DECODE,
EDGE_DETECT and GPIO_FAIL (O13, O14, O15). -/

namespace Sys2Proof.Proofs.Encoding
open Sys2Proof.Machine Sys2Proof.Claims

/-- R91's word of one operand byte, written with a shift. -/
theorem or_shiftLeft_eq_cmdWord_byte (opc a : Byte) :
    opc.setWidth 32 ||| (a.setWidth 32 <<< 8) = cmdWord opc a 0#8 := by
  have hpad : (0#8 ++ a : Half).setWidth 32 = a.setWidth 32 := by
    apply BitVec.eq_of_toNat_eq
    rw [BitVec.toNat_setWidth_of_le (by decide), BitVec.toNat_setWidth_of_le (by decide), toNat_append_byte]
    rfl
  rw [← or_shiftLeft_eq_cmdWord, hpad]

end Sys2Proof.Proofs.Encoding

namespace Sys2Proof.Proofs.Gpio
open Sys2Proof.Machine Sys2Proof.Claims Sys2Proof.Proofs.Encoding

/-! ### The publishes -/

/-- A channel's publish under R122's mask is the one R123 gives it. -/
theorem edgeEvent_edges (s r bind : Byte) (i : Fin 8) :
    edgeEvent s (edges s r bind) i =
      (if bind.getLsbD i && (s.getLsbD i != r.getLsbD i) then
        some (Event.publish (.gpio i) (.bool (!s.getLsbD i))) else none).toList := by
  have hbit : (edges s r bind).getLsbD i = (bind.getLsbD i && (s.getLsbD i != r.getLsbD i)) := by
    rw [edges_getLsbD, Bool.and_comm]
  rw [edgeEvent, hbit, active]
  split <;> rfl

theorem edgeEvents_eq_changedPublishes (s r bind : Byte) : edgeEvents s (edges s r bind) = changedPublishes s r bind := by
  rw [edgeEvents, changedPublishes, channels_eq_finRange, List.filterMap_eq_flatMap_toList]
  exact congrArg (List.flatMap · _) (funext (edgeEvent_edges s r bind))

theorem unavailableEvents_eq_unavailablePublishes (bind : Byte) : unavailableEvents bind = unavailablePublishes bind := by
  rw [unavailableEvents, unavailablePublishes, channels_eq_finRange, List.filterMap_eq_flatMap_toList]
  refine congrArg (List.flatMap · _) (funext fun i => ?_)
  rw [unavailableEvent]
  split <;> rfl

/-! ### GPIO_DECODE (R121) -/

theorem exec_gpioDecode (s : State) (v : Byte) :
    exec (.gpioDecode v) s = .next { s with result := 0#24 ++ (v ^^^ 0xFF#8) } := by
  have hinv : zext8 (~~~v) = 0#24 ++ (v ^^^ 0xFF#8) := by
    rw [zext8, BitVec.setWidth_eq_append (by decide), ← BitVec.xor_allOnes]
    rfl
  rw [← hinv]
  rfl

theorem decode_cmdWord_gpioDecode (v : Byte) : decode (.cmd (cmdWord 0x10#8 v 0#8)) = .ok (.gpioDecode v) :=
  decode_cmdWord (r := opRows[3]) (List.getElem_mem _) (Laws.InRow.gpioDecode v) rfl

/-- Settles O13: RESULT takes the inverted byte, and the row of GPIO_DECODE leaves only byte A free. -/
theorem gpioDecodeInvertsSnapshot : Obligations.GpioDecodeInvertsSnapshot :=
  ⟨exec_gpioDecode, fun v => or_shiftLeft_eq_cmdWord_byte 0x10#8 v ▸ decode_cmdWord_gpioDecode v,
    reservedBitsFault_of_mem (r := opRows[3]) (List.getElem_mem _)⟩

/-! ### EDGE_DETECT (R123) -/

theorem exec_edgeDetect (s : State) (v : Byte) :
    exec (.edgeDetect v) s = .next { s with
      events := s.events ++ changedPublishes v s.retained s.cfg.bindGpio
      retained := v
      result := changedMask v s.retained s.cfg.bindGpio } := by
  rw [← edgeEvents_eq_changedPublishes]
  rfl

theorem decode_cmdWord_edgeDetect (v : Byte) : decode (.cmd (cmdWord 0x11#8 v 0#8)) = .ok (.edgeDetect v) :=
  decode_cmdWord (r := opRows[4]) (List.getElem_mem _) (Laws.InRow.edgeDetect v) rfl

/-- Settles O14: R122's mask selects the publishes of R123, and RETAINED takes the whole snapshot. -/
theorem edgeDetectPublishesChanges : Obligations.EdgeDetectPublishesChanges :=
  ⟨exec_edgeDetect, fun v => or_shiftLeft_eq_cmdWord_byte 0x11#8 v ▸ decode_cmdWord_edgeDetect v,
    reservedBitsFault_of_mem (r := opRows[4]) (List.getElem_mem _)⟩

/-! ### GPIO_FAIL (R124) -/

theorem exec_gpioFail (s : State) :
    exec .gpioFail s = .next { s with events := s.events ++ unavailablePublishes s.cfg.bindGpio } := by
  rw [← unavailableEvents_eq_unavailablePublishes]
  rfl

/-- Settles O15: the publishes of R124 are all GPIO_FAIL adds, and its row leaves no bit free. -/
theorem gpioFailMarksBoundUnavailable : Obligations.GpioFailMarksBoundUnavailable :=
  ⟨exec_gpioFail, rfl, reservedBitsFault_of_mem (r := opRows[5]) (List.getElem_mem _)⟩

end Sys2Proof.Proofs.Gpio
end

section
/-! PROOFS. GPIO_POLL (41_gpio_edge.md R125 to R131), segment by segment: bus check, transaction, validation, and the two courses
to END. Each way through the segments is a whole-state equation (O16, O17, O18), and the three ways together give R131 (O21). -/

namespace Sys2Proof.Proofs.Sequencer
open Sys2Proof.Machine

/-! ### Runs of any poll operation -/

/-- A run that has come to its end stays there. -/
theorem microSteps_of_ended {k n : Nat} {s t : State} (hkn : k ≤ n) (hrun : microSteps k s = t) (hend : t.todo = []) :
    microSteps n s = t := by
  rw [← Nat.add_sub_of_le hkn, microSteps_add, hrun, microSteps_nil _ t hend]

/-- Steps that only append events, one for each channel, append them in the order of the channels. -/
theorem microSteps_map_emit (mk : Fin 8 → Micro) (f : State → Fin 8 → List Event)
    (hrun : ∀ t i, runMicro (mk i) t = t.emit (f t i)) (hgoto : ∀ t ms, f (t.goto ms) = f t)
    (hemit : ∀ t es, f (t.emit es) = f t) (is : List (Fin 8)) (rest : List Micro) (t : State)
    (htodo : t.todo = is.map mk ++ rest) :
    microSteps is.length t = (t.emit (is.flatMap (f t))).goto rest := by
  induction is generalizing t with
  | nil =>
    have htodo' : t.todo = rest := htodo
    simp [microSteps, State.emit, State.goto, ← htodo']
  | cons i is ih =>
    rw [List.length_cons, microSteps_cons _ t _ _ htodo, hrun, ih _ rfl, hemit, hgoto]
    simp [State.emit, State.goto]

/-- An initial reset that no device answers (R17). -/
theorem initialReset_of_absent (f : Failure) (s : State) (h : s.resetAnswer 0 = false) :
    initialReset f s = { s with
      present := false
      resetPos := s.resetPos + 1
      events := s.events ++ [.reset false]
      todo := failProgram f } := by
  simp [initialReset, State.busReset, State.setPresent, State.goto, h]

/-- An initial reset that a device answers. -/
theorem initialReset_of_present (f : Failure) (s : State) (h : s.resetAnswer 0 = true) :
    initialReset f s = { s with
      present := true
      resetPos := s.resetPos + 1
      events := s.events ++ [.reset true] } := by
  simp [initialReset, State.busReset, State.setPresent, h]

/-- The last two steps of every way through a poll operation. -/
theorem microSteps_outcome_finish (c : OutcomeCode) (t : State) (h : t.todo = [.outcome c, .finish]) :
    microSteps 2 t = (t.setOutcome c).finish := by
  rw [microSteps_cons 1 t _ _ h, microSteps_cons 0 _ .finish [] rfl]
  rfl

end Sys2Proof.Proofs.Sequencer

namespace Sys2Proof.Proofs.Gpio
open Sys2Proof.Machine Sys2Proof.Claims Sys2Proof.Proofs.Sequencer

/-! ### The segments of GPIO_POLL -/

/-- GPIO_POLL after VALIDATE (R129). -/
def afterValidate : List Micro :=
  .enter (.gpioPoll .publish) :: (channels.map .publishEdge ++ [.retain, .outcome .ok, .finish])

/-- GPIO_POLL after its transaction (R128). -/
def afterTransaction : List Micro := .enter (.gpioPoll .validate) :: .validate :: afterValidate

/-- GPIO_POLL after its reset (R127). -/
def afterReset : List Micro := .enter (.gpioPoll .transact) :: .select .gpio :: .wire 0xF0#8 :: afterTransaction

theorem gpioProgram_eq :
    gpioProgram = .enter (.gpioPoll .busCheck) :: .initialReset .gpioUnreachable :: afterReset := rfl

theorem gpioUnavailable_eq (c : OutcomeCode) :
    gpioUnavailable c =
      .enter (.gpioPoll .unavailable) :: (channels.map .publishUnavailable ++ [.outcome c, .finish]) := rfl

/-- The block holding the lock, at the reset of R126. -/
def holdingLock (s : State) : State :=
  { s with busy := true, seq := .running (.gpioPoll .busCheck), lock := .mine, todo := afterReset, work := Work.none }

/-- A free lock is acquired at once (R66), and then comes the reset. -/
theorem microSteps_busCheck {s : State} (h : s.Ready) :
    microSteps 3 (beginGpioPoll s) = initialReset .gpioUnreachable (holdingLock s) := by
  have hacquire : runMicro .acquire ((beginGpioPoll s).goto gpioProgram) =
      { (beginGpioPoll s).goto gpioProgram with lock := .mine } := by
    refine if_neg ?_
    rw [show ((beginGpioPoll s).goto gpioProgram).lock = .free from h.lock]
    nofun
  rw [microSteps_cons 2 _ .acquire gpioProgram rfl, hacquire, microSteps_cons 1 _ _ _ gpioProgram_eq]
  rfl

/-- The transaction of R127: seven events, and the three bytes read. -/
theorem microSteps_transaction {t : State} (h : t.todo = afterReset) :
    microSteps 8 t = { t with
      seq := .running (.gpioPoll .transact)
      todo := afterTransaction
      work := { t.work with snap := t.readAnswer 0, trailLo := t.readAnswer 1, trailHi := t.readAnswer 2 }
      readPos := t.readPos + 3
      events := t.events ++ gpioTransaction t.cfg.addrGpio (t.readAnswer 0) (t.readAnswer 1) (t.readAnswer 2) } := by
  cases t
  cases h
  simp [microSteps, microStep, runMicro, wireByte, wireReadRegister, deviceAddr, gpioTransaction, State.goto, State.enter,
    State.emit, State.push, State.busSelect, State.busWrite, State.busRead, State.store, State.setWork, State.readAnswer,
    Nat.add_assoc]

/-- R128: VALIDATE where the trailer read is that of the bytes before it. -/
theorem validate_of_match {t : State}
    (h : gpioCheck t.cfg t.work.snap ^^^ t.cfg.crcOutXor = t.work.trailHi ++ t.work.trailLo) :
    validate t = { t with crcAcc := gpioCheck t.cfg t.work.snap, crcOk := true } := by
  have hok : crcMatches t.cfg.crcOutXor (gpioCrc t.cfg t.work.snap) (halfOf t.work.trailLo t.work.trailHi) = true :=
    beq_iff_eq.mpr h
  rw [validate, hok]
  rfl

/-- R128: VALIDATE where it is not. -/
theorem validate_of_mismatch {t : State}
    (h : ¬ gpioCheck t.cfg t.work.snap ^^^ t.cfg.crcOutXor = t.work.trailHi ++ t.work.trailLo) :
    validate t = { t with
      crcAcc := gpioCheck t.cfg t.work.snap
      crcOk := false
      todo := gpioUnavailable .checksumMismatch } := by
  have hok : crcMatches t.cfg.crcOutXor (gpioCrc t.cfg t.work.snap) (halfOf t.work.trailLo t.work.trailHi) = false :=
    beq_eq_false_iff_ne.mpr h
  rw [validate, hok]
  rfl

/-- The VALIDATE step (R128). -/
theorem microSteps_validate {t : State} (h : t.todo = afterTransaction) :
    microSteps 2 t = validate ((t.goto afterValidate).enter (.gpioPoll .validate)) := by
  rw [microSteps_cons 1 t _ _ h, runMicro, microSteps_cons 0 _ .validate afterValidate rfl]
  rfl

/-- The eight steps that publish the changes (R129). -/
theorem microSteps_publishEdge {t : State} {rest : List Micro} (h : t.todo = channels.map .publishEdge ++ rest) :
    microSteps 8 t = (t.emit (changedPublishes t.work.snap t.retained t.cfg.bindGpio)).goto rest := by
  rw [← edgeEvents_eq_changedPublishes]
  exact microSteps_map_emit .publishEdge
    (fun u => edgeEvent u.work.snap (edges u.work.snap u.retained u.cfg.bindGpio))
    (fun _ _ => rfl) (fun _ _ => rfl) (fun _ _ => rfl) channels rest t h

/-- The eight steps that publish `Unavailable` (R130). -/
theorem microSteps_publishUnavailable {t : State} {rest : List Micro}
    (h : t.todo = channels.map .publishUnavailable ++ rest) :
    microSteps 8 t = (t.emit (unavailablePublishes t.cfg.bindGpio)).goto rest := by
  rw [← unavailableEvents_eq_unavailablePublishes]
  exact microSteps_map_emit .publishUnavailable (fun u => unavailableEvent u.cfg.bindGpio)
    (fun _ _ => rfl) (fun _ _ => rfl) (fun _ _ => rfl) channels rest t h

/-- The PUBLISH step up to END (R129). -/
theorem microSteps_publish {t : State} (h : t.todo = afterValidate) :
    microSteps 12 t = { t.finish with
      outcome := 0#4
      retained := t.work.snap
      events := t.events ++ changedPublishes t.work.snap t.retained t.cfg.bindGpio } := by
  rw [microSteps_cons 11 t _ _ h, runMicro, microSteps_add 8 3, microSteps_publishEdge rfl,
    microSteps_cons 2 _ .retain [.outcome .ok, .finish] rfl, runMicro, microSteps_outcome_finish .ok _ rfl]
  simp [State.finish, OutcomeCode.code]

/-- The UNAVAILABLE step up to END (R130). -/
theorem microSteps_unavailable {t : State} (c : OutcomeCode) (h : t.todo = gpioUnavailable c) :
    microSteps 11 t = { t.finish with
      outcome := c.code
      events := t.events ++ unavailablePublishes t.cfg.bindGpio } := by
  rw [microSteps_cons 10 t _ _ (h.trans (gpioUnavailable_eq c)), runMicro, microSteps_add 8 2,
    microSteps_publishUnavailable rfl, microSteps_outcome_finish _ _ rfl]
  rfl

/-! ### The three ways through GPIO_POLL -/

/-- A run that comes to its end within the fuel is what the whole operation answers. -/
theorem exec_gpioPoll_of_run {k : Nat} {s t : State} (hk : k ≤ pollFuel) (hrun : microSteps k (beginGpioPoll s) = t)
    (hend : t.todo = []) : exec .gpioPoll s = .next t :=
  congrArg Host.Outcome.next (microSteps_of_ended hk hrun hend)

/-- Settles O16: bus check, then UNAVAILABLE. -/
theorem gpioPollBusUnreachable : Obligations.GpioPollBusUnreachable := by
  intro s h habsent
  refine exec_gpioPoll_of_run (k := 3 + 11) (by decide) ?_ h.todo
  rw [microSteps_add, microSteps_busCheck h, initialReset_of_absent _ (holdingLock s) habsent,
    microSteps_unavailable .busUnreachable rfl]
  simp [State.finish, holdingLock, OutcomeCode.code, h.busy, h.seq, h.lock, h.todo, h.work]

/-- The state before VALIDATE of a cycle whose reset was answered (R127). -/
def transacted (s : State) : State :=
  { s with
    busy := true
    seq := .running (.gpioPoll .transact)
    lock := .mine
    todo := afterTransaction
    work := { Work.none with snap := s.readAnswer 0, trailLo := s.readAnswer 1, trailHi := s.readAnswer 2 }
    present := true
    resetPos := s.resetPos + 1
    readPos := s.readPos + 3
    events := s.events ++ [.reset true] ++
      gpioTransaction s.cfg.addrGpio (s.readAnswer 0) (s.readAnswer 1) (s.readAnswer 2) }

theorem microSteps_transacted {s : State} (h : s.Ready) (hpresent : s.resetAnswer 0 = true) :
    microSteps 11 (beginGpioPoll s) = transacted s := by
  rw [microSteps_add 3 8, microSteps_busCheck h, initialReset_of_present _ (holdingLock s) hpresent,
    microSteps_transaction rfl]
  rfl

/-- Settles O17: bus check, transaction, VALIDATE, then UNAVAILABLE. -/
theorem gpioPollChecksumMismatch : Obligations.GpioPollChecksumMismatch := by
  intro s h hpresent hmismatch
  refine exec_gpioPoll_of_run (k := 11 + (2 + 11)) (by decide) ?_ h.todo
  rw [microSteps_add, microSteps_transacted h hpresent, microSteps_add, microSteps_validate rfl,
    validate_of_mismatch (t := ((transacted s).goto _).enter _) hmismatch,
    microSteps_unavailable .checksumMismatch rfl]
  simp [State.finish, transacted, OutcomeCode.code, h.busy, h.seq, h.lock, h.todo, h.work]

/-- Settles O18: bus check, transaction, VALIDATE, then PUBLISH. -/
theorem gpioPollPublishesValidSnapshot : Obligations.GpioPollPublishesValidSnapshot := by
  intro s h hpresent hmatch
  refine exec_gpioPoll_of_run (k := 11 + (2 + 12)) (by decide) ?_ h.todo
  rw [microSteps_add, microSteps_transacted h hpresent, microSteps_add, microSteps_validate rfl,
    validate_of_match (t := ((transacted s).goto _).enter _) hmatch, microSteps_publish rfl]
  simp [State.finish, transacted, h.busy, h.seq, h.lock, h.todo, h.work]

/-! ### Cycle after cycle (R131) -/

/-- What a cycle can do to what R131 speaks of: a failed one keeps RETAINED, and one that succeeds compares with it. -/
theorem exec_gpioPoll_cases {s t : State} (h : s.Ready) (hexec : exec .gpioPoll s = .next t) :
    t.Ready ∧ t.cfg = s.cfg ∧
    ((t.outcome ≠ 0#4 ∧ t.retained = s.retained) ∨
      (t.outcome = 0#4 ∧ t.retained = s.readAnswer 0 ∧ t.sinkHistory = s.sinkHistory ++
        (changedPublishes (s.readAnswer 0) s.retained s.cfg.bindGpio).filterMap Event.published?)) := by
  cases hreset : s.resetAnswer 0 with
  | false =>
    cases (gpioPollBusUnreachable s h hreset).symm.trans hexec
    exact ⟨⟨h.busy, h.seq, h.lock, h.todo, h.work⟩, rfl, .inl ⟨nofun, rfl⟩⟩
  | true =>
    by_cases hmatch : TrailerMatches s
    · cases (gpioPollPublishesValidSnapshot s h hreset hmatch).symm.trans hexec
      refine ⟨⟨h.busy, h.seq, h.lock, h.todo, h.work⟩, rfl, .inr ⟨rfl, rfl, ?_⟩⟩
      simp [State.sinkHistory, gpioTransaction, List.filterMap_cons, Event.published?]
    · cases (gpioPollChecksumMismatch s h hreset hmatch).symm.trans hexec
      exact ⟨⟨h.busy, h.seq, h.lock, h.todo, h.work⟩, rfl, .inl ⟨nofun, rfl⟩⟩

/-- A failed cycle leaves the block ready and keeps what the next one compares with. -/
theorem exec_gpioPoll_failed {s t : State} (h : s.Ready) (hexec : exec .gpioPoll s = .next t) (hfail : t.outcome ≠ 0#4) :
    t.Ready ∧ t.cfg = s.cfg ∧ t.retained = s.retained := by
  obtain ⟨hready, hcfg, ⟨_, hret⟩ | ⟨hok, _⟩⟩ := exec_gpioPoll_cases h hexec
  · exact ⟨hready, hcfg, hret⟩
  · exact absurd hok hfail

/-- So do any number of them. -/
theorem failedCycles_keep {n : Nat} {path : Nat → State} (h : (path 0).Ready)
    (hpath : ∀ k < n, exec .gpioPoll (path k) = .next (path (k + 1)) ∧ (path (k + 1)).outcome ≠ 0#4) :
    (path n).Ready ∧ (path n).cfg = (path 0).cfg ∧ (path n).retained = (path 0).retained := by
  induction n with
  | zero => exact ⟨h, rfl, rfl⟩
  | succ n ih =>
    obtain ⟨hready, hcfg, hret⟩ := ih fun k hk => hpath k (hk.trans n.lt_succ_self)
    obtain ⟨hexec, hfail⟩ := hpath n n.lt_succ_self
    obtain ⟨hready', hcfg', hret'⟩ := exec_gpioPoll_failed hready hexec hfail
    exact ⟨hready', hcfg'.trans hcfg, hret'.trans hret⟩

/-- Settles O21, by induction on the number of failed cycles. -/
theorem gpioEdgesSkipFailedCycles : Obligations.GpioEdgesSkipFailedCycles := by
  rintro n s t u h ⟨path, rfl, rfl, hpath⟩ hexec hok
  obtain ⟨hready, hcfg, hret⟩ := failedCycles_keep h hpath
  obtain ⟨_, _, ⟨hfail, _⟩ | ⟨_, hsnap, hsink⟩⟩ := exec_gpioPoll_cases hready hexec
  · exact absurd hok hfail
  · rw [hcfg, hret] at hsink
    exact ⟨hret, _, hsnap, hsink⟩

end Sys2Proof.Proofs.Gpio
end

section
/-! PROOFS. The counter unit (42_counter.md): CNT_PAGE, CNT_LOAD, CNT_ASSEMBLE and CNT_CLEAR as whole-state equations, and the
settling of O22 to O25. -/

namespace Sys2Proof.Proofs.Encoding
open Sys2Proof.Machine Sys2Proof.Claims

/-- R91's word of two operand bytes, written with its two shifts. -/
theorem or_shiftLeft_or_shiftLeft_eq_cmdWord (opc a b : Byte) :
    opc.setWidth 32 ||| (a.setWidth 32 <<< 8) ||| (b.setWidth 32 <<< 16) = cmdWord opc a b := by
  have hlow : (cmdWord opc a 0#8).toNat = opc.toNat + 256 * a.toNat := toNat_cmdWord opc a 0#8
  have hlt : (cmdWord opc a 0#8).toNat < 2 ^ 16 := by omega
  have hhigh : (b.setWidth 32 <<< 16).toNat = b.toNat <<< 16 := by
    rw [BitVec.toNat_shiftLeft, BitVec.toNat_setWidth_of_le (by decide)]
    exact Nat.mod_eq_of_lt (by simp only [Nat.shiftLeft_eq]; omega)
  apply BitVec.eq_of_toNat_eq
  rw [or_shiftLeft_eq_cmdWord_byte, BitVec.toNat_or, hhigh, Nat.or_comm, ← Nat.shiftLeft_add_eq_or_of_lt hlt, hlow,
    toNat_cmdWord, Nat.shiftLeft_eq]
  omega

end Sys2Proof.Proofs.Encoding

namespace Sys2Proof.Proofs.Counter
open Sys2Proof.Machine Sys2Proof.Claims Sys2Proof.Proofs.Encoding

/-! ### CNT_PAGE (R151) -/

theorem exec_cntPage (s : State) (sel : Counter) :
    exec (.cntPage sel) s = .next { s with result := zext16 (page sel) } := rfl

theorem decode_cmdWord_cntPage (sel : Counter) :
    decode (.cmd (cmdWord 0x20#8 (selByte sel) 0#8)) = .ok (.cntPage sel) := by
  have hbuild : opRows[7].build (selByte sel) 0#8 = .cntPage sel := by cases sel <;> rfl
  exact hbuild ▸ decode_cmdWord (List.getElem_mem _) (Laws.InRow.cntPage sel) rfl

/-- Settles O22: the two page addresses are those of R150, and the row of CNT_PAGE leaves only the selector bit free. -/
theorem cntPageSelectsPage : Obligations.CntPageSelectsPage :=
  ⟨fun s => ⟨exec_cntPage s .a, exec_cntPage s .b⟩, decode_cmdWord_cntPage .a, decode_cmdWord_cntPage .b,
    reservedBitsFault_of_mem (r := opRows[7]) (List.getElem_mem _)⟩

/-! ### CNT_LOAD (R152) -/

theorem exec_cntLoad (s : State) (k : Fin 4) (b : Byte) :
    exec (.cntLoad k b) s = .next { s with cntLatch := (s.loadCnt k b).cntLatch } := rfl

/-- Any latch byte after a load, in one equation: the byte loaded at its index, what was there before elsewhere. -/
theorem loadCnt_getElem (s : State) (k j : Fin 4) (b : Byte) :
    (s.loadCnt k b).cntLatch[j] = if j = k then some b else s.cntLatch[j] := by
  by_cases hjk : j = k
  · rw [if_pos hjk, hjk, loadCnt_same]
  · rw [if_neg hjk, loadCnt_other s k j b (Ne.symm hjk)]

/-- R81: the latch index is the low two bits of B. -/
theorem decode_cmdWord_cntLoad (k : Fin 4) (b : Byte) :
    decode (.cmd (cmdWord 0x21#8 b (BitVec.ofNat 8 k.val))) = .ok (.cntLoad k b) := by
  have hidx : cntIndexOperand (BitVec.ofNat 8 k.val) = k := by revert k; decide
  have hbuild : opRows[8].build b (BitVec.ofNat 8 k.val) = .cntLoad k b := congrArg (Instr.cntLoad · b) hidx
  exact hbuild ▸ decode_cmdWord (List.getElem_mem _) (Laws.InRow.cntLoad k b) rfl

/-- R152's word is R91's, with the index in B. -/
theorem cntLoad_word_eq_cmdWord (k : Fin 4) (b : Byte) :
    0x00000021#32 ||| (b.setWidth 32 <<< 8) ||| (BitVec.ofNat 32 k.val <<< 16) =
      cmdWord 0x21#8 b (BitVec.ofNat 8 k.val) := by
  have hidx : BitVec.ofNat 32 k.val = (BitVec.ofNat 8 k.val).setWidth 32 := by revert k; decide
  rw [hidx]
  exact or_shiftLeft_or_shiftLeft_eq_cmdWord 0x21#8 b _

/-- Settles O23: the latch afterwards is the one with the byte set, and the row of CNT_LOAD leaves A and B[1:0] free. -/
theorem cntLoadWritesLatchByte : Obligations.CntLoadWritesLatchByte :=
  ⟨fun s k b => ⟨_, exec_cntLoad s k b, fun j => loadCnt_getElem s k j b⟩,
    fun k b => cntLoad_word_eq_cmdWord k b ▸ decode_cmdWord_cntLoad k b,
    reservedBitsFault_of_mem (r := opRows[8]) (List.getElem_mem _)⟩

/-! ### CNT_ASSEMBLE (R153, R154) -/

theorem littleEndian_lt (b0 b1 b2 b3 : Byte) : littleEndian b0 b1 b2 b3 < 2 ^ 32 := by
  unfold littleEndian
  omega

/-- R153: the concatenation of the four bytes is the word of their little-endian number. -/
theorem assemble_eq_littleEndian (b0 b1 b2 b3 : Byte) :
    assemble b0 b1 b2 b3 = BitVec.ofNat 32 (littleEndian b0 b1 b2 b3) := by
  apply BitVec.eq_of_toNat_eq
  rw [BitVec.toNat_ofNat, Nat.mod_eq_of_lt (littleEndian_lt b0 b1 b2 b3)]
  exact assemble_toNat b0 b1 b2 b3

theorem cntValue_of_written {s : State} {b0 b1 b2 b3 : Byte}
    (h : s.cntLatch = #v[some b0, some b1, some b2, some b3]) :
    s.cntValue = some (BitVec.ofNat 32 (littleEndian b0 b1 b2 b3)) := by
  rw [cntValue_eq_some_iff, h]
  exact ⟨b0, b1, b2, b3, rfl, rfl, rfl, rfl, (assemble_eq_littleEndian b0 b1 b2 b3).symm⟩

/-- R154: one unwritten byte leaves the counter without a value. -/
theorem cntValue_of_unwritten {s : State} {k : Fin 4} (h : s.cntLatch[k] = none) : s.cntValue = none := by
  refine Option.eq_none_iff_forall_ne_some.mpr fun v hv => ?_
  obtain ⟨b0, b1, b2, b3, h0, h1, h2, h3, _⟩ := (cntValue_eq_some_iff s v).mp hv
  fin_cases k
  · cases h.symm.trans h0
  · cases h.symm.trans h1
  · cases h.symm.trans h2
  · cases h.symm.trans h3

theorem exec_cntAssemble_of_value {s : State} {v : Word} (h : s.cntValue = some v) :
    exec .cntAssemble s = .next { s with result := v } := by
  show execCntAssemble s = _
  rw [execCntAssemble, h]
  rfl

theorem exec_cntAssemble_of_unwritten {s : State} {k : Fin 4} (h : s.cntLatch[k] = none) :
    exec .cntAssemble s = .next { s with fault := 0x02#8 } := by
  show execCntAssemble s = _
  rw [execCntAssemble, cntValue_of_unwritten h]
  rfl

/-- Settles O24: the latch has a value iff its four bytes are written, and the row of CNT_ASSEMBLE leaves no bit free. -/
theorem cntAssembleLittleEndianOrFaults : Obligations.CntAssembleLittleEndianOrFaults :=
  ⟨fun _ b0 b1 b2 b3 h =>
      ⟨exec_cntAssemble_of_value (cntValue_of_written h), Nat.le_of_lt_succ (littleEndian_lt b0 b1 b2 b3)⟩,
    fun _ ⟨_, h⟩ => exec_cntAssemble_of_unwritten h, rfl,
    reservedBitsFault_of_mem (r := opRows[9]) (List.getElem_mem _)⟩

/-! ### CNT_CLEAR (R155) -/

theorem exec_cntClear (s : State) : exec .cntClear s = .next { s with cntLatch := #v[none, none, none, none] } := rfl

/-- Settles O25: a cleared latch has an unwritten byte, so CNT_ASSEMBLE faults; the row of CNT_CLEAR leaves no bit free. -/
theorem cntClearEmptiesLatch : Obligations.CntClearEmptiesLatch := by
  refine ⟨exec_cntClear, fun s t h => ?_, rfl, reservedBitsFault_of_mem (r := opRows[10]) (List.getElem_mem _)⟩
  cases (exec_cntClear s).symm.trans h
  exact exec_cntAssemble_of_unwritten (k := 0) rfl

end Sys2Proof.Proofs.Counter
end

section
/-! PROOFS. The analog unit (43_analog.md): the decodes of the scratchpad (R174 to R179), and ADC_CONFIG, SP_LOAD and SP_CLEAR
as whole-state equations; the settling of O29 to O35. -/

namespace Sys2Proof.Proofs.Analog
open Sys2Proof.Machine Sys2Proof.Claims Sys2Proof.Proofs.Encoding

/-! ### Two bytes of the scratchpad as a number (R174, R176, R178) -/

theorem s16_halfOf_eq_signed (l h : Byte) : s16 (halfOf l h) = signed l h := by
  rw [s16_halfOf]
  simp only [signed]
  push_cast
  rfl

theorem sext16_halfOf (l h : Byte) : sext16 (halfOf l h) = BitVec.ofInt 32 (signed l h) :=
  congrArg (BitVec.ofInt 32) (s16_halfOf_eq_signed l h)

theorem zext16_halfOf (l h : Byte) : zext16 (halfOf l h) = BitVec.ofNat 32 (unsigned l h) := by
  rw [zext16, ← BitVec.ofNat_toNat, halfOf_toNat, unsigned]

theorem neg_32768_le_signed (l h : Byte) : -32768 ≤ signed l h := by
  rw [← s16_halfOf_eq_signed]
  exact BitVec.le_toInt (halfOf l h)

theorem signed_le_32767 (l h : Byte) : signed l h ≤ 32767 := by
  rw [← s16_halfOf_eq_signed]
  exact Int.le_of_lt_add_one BitVec.toInt_lt

theorem unsigned_le_65535 (l h : Byte) : unsigned l h ≤ 65535 := by
  unfold unsigned
  omega

theorem tempValue_halfOf (l h : Byte) : tempValue (halfOf l h) = (signed l h : Rat) / 256 := by
  rw [tempValue, s16_halfOf_eq_signed]

theorem voltValue_halfOf (l h : Byte) : voltValue (halfOf l h) = (unsigned l h : Rat) / 100 := by
  rw [voltValue, halfOf_toNat, unsigned]

theorem currValue_halfOf (l h : Byte) (shunt : Rat) :
    currValue (halfOf l h) shunt = (signed l h : Rat) * 2441 / (10000000 * shunt) := by
  rw [currValue, s16_halfOf_eq_signed]

theorem spHalf_of_written {s : State} {lo hi : Fin 9} {l h : Byte} (hlo : s.sp[lo] = some l) (hhi : s.sp[hi] = some h) :
    s.spHalf lo hi = some (halfOf l h) :=
  (spHalf_eq_some_iff s lo hi _).mpr ⟨l, h, hlo, hhi, rfl⟩

theorem spHalf_of_unwritten {s : State} {lo hi : Fin 9} (h : s.sp[lo] = none ∨ s.sp[hi] = none) :
    s.spHalf lo hi = none := by
  refine Option.eq_none_iff_forall_ne_some.mpr fun v hv => ?_
  obtain ⟨l, u, hlo, hhi, _⟩ := (spHalf_eq_some_iff s lo hi v).mp hv
  rcases h with h | h
  · cases h.symm.trans hlo
  · cases h.symm.trans hhi

theorem reading_temp {s : State} {l h : Byte} (hlo : s.sp[1] = some l) (hhi : s.sp[2] = some h) :
    s.reading .temp = some ((signed l h : Rat) / 256) := by
  rw [State.reading, State.tempRaw, spHalf_of_written hlo hhi, Option.map_some, tempValue_halfOf]

/-- The two voltage channels read the same bytes (R176). -/
theorem reading_volt {s : State} {l h : Byte} (hlo : s.sp[3] = some l) (hhi : s.sp[4] = some h) :
    s.reading .vdd = some ((unsigned l h : Rat) / 100) ∧ s.reading .vad = some ((unsigned l h : Rat) / 100) := by
  rw [State.reading, State.reading, State.voltRaw, spHalf_of_written hlo hhi, Option.map_some, voltValue_halfOf]
  exact ⟨rfl, rfl⟩

theorem reading_curr {s : State} {l h : Byte} (hlo : s.sp[5] = some l) (hhi : s.sp[6] = some h) :
    s.reading .curr = some ((signed l h : Rat) * 2441 / (10000000 * s.cfg.shunt)) := by
  rw [State.reading, State.currRaw, spHalf_of_written hlo hhi, Option.map_some, currValue_halfOf]

/-- R178 with the constant as the source writes it: the decimal 0.0002441, or 2441 parts in 10000000. -/
theorem curr_constant_eq_decimal (q shunt : Rat) : q * 2441 / (10000000 * shunt) = q * 0.0002441 / shunt := by
  rw [← div_div]
  congr 1
  ring

/-- Settles O29: the readings are the three quotients, and the ranges are those of a 16-bit number divided. -/
theorem scratchpadDecodes : Obligations.ScratchpadDecodes := by
  intro s l h
  have hmin : (-32768 : Rat) ≤ signed l h := mod_cast neg_32768_le_signed l h
  have hmax : (signed l h : Rat) ≤ 32767 := mod_cast signed_le_32767 l h
  have humax : (unsigned l h : Rat) ≤ 65535 := mod_cast unsigned_le_65535 l h
  refine ⟨fun hlo hhi => ⟨reading_temp hlo hhi, by linarith, by linarith⟩,
    fun hlo hhi => ?_, fun hlo hhi => curr_constant_eq_decimal _ _ ▸ reading_curr hlo hhi⟩
  obtain ⟨hvdd, hvad⟩ := reading_volt hlo hhi
  exact ⟨hvdd, hvad, by positivity, by linarith⟩

/-! ### ADC_CONFIG (R171) -/

/-- R88's byte, as the model ORs it together and as the claims list it. -/
theorem cfgByte_eq_configByte (vdd iad : Bool) : cfgByte vdd iad = configByte vdd iad := by
  cases vdd <;> cases iad <;> rfl

theorem exec_adcConfig (s : State) (vdd iad : Bool) :
    exec (.adcConfig vdd iad) s = .next { s with result := 0#24 ++ configByte vdd iad } := by
  have hzext : zext8 (cfgByte vdd iad) = 0#24 ++ configByte vdd iad := by
    rw [zext8, BitVec.setWidth_eq_append (by decide), cfgByte_eq_configByte]
    rfl
  rw [← hzext]
  rfl

theorem decode_cmdWord_adcConfig (vdd iad : Bool) :
    decode (.cmd (cmdWord 0x30#8 (adcConfigByte vdd iad) 0#8)) = .ok (.adcConfig vdd iad) := by
  have hbuild : opRows[12].build (adcConfigByte vdd iad) 0#8 = .adcConfig vdd iad := by cases vdd <;> cases iad <;> rfl
  exact hbuild ▸ decode_cmdWord (List.getElem_mem _) (Laws.InRow.adcConfig vdd iad) rfl

/-- R81: the VDD select is bit 8 of the word and IAD bit 9. -/
theorem adcConfig_word_eq_cmdWord (vdd iad : Bool) :
    0x00000030#32 ||| ((BitVec.ofBool vdd).setWidth 32 <<< 8) ||| ((BitVec.ofBool iad).setWidth 32 <<< 9) =
      cmdWord 0x30#8 (adcConfigByte vdd iad) 0#8 := by
  cases vdd <;> cases iad <;> rfl

/-- Settles O30: RESULT takes R88's byte, and the row of ADC_CONFIG leaves only A[1:0] free. -/
theorem adcConfigBuildsByte : Obligations.AdcConfigBuildsByte :=
  ⟨exec_adcConfig, fun vdd iad => adcConfig_word_eq_cmdWord vdd iad ▸ decode_cmdWord_adcConfig vdd iad,
    reservedBitsFault_of_mem (r := opRows[12]) (List.getElem_mem _)⟩

/-! ### SP_LOAD (R172) -/

theorem toNat_spIndex (k : Fin 9) : (BitVec.ofNat 8 k.val).toNat = k.val := by
  rw [BitVec.toNat_ofNat]
  exact Nat.mod_eq_of_lt (by omega)

theorem exec_spLoad (s : State) (k : Fin 9) (b : Byte) :
    exec (.spLoad (BitVec.ofNat 8 k.val) b) s = .next { s with sp := (s.loadSp k b).sp } := by
  have hk := toNat_spIndex k
  have hlt : (BitVec.ofNat 8 k.val).toNat < 9 := hk.trans_lt k.isLt
  show execSpLoad _ b s = _
  rw [execSpLoad, dif_pos hlt, show (⟨_, hlt⟩ : Fin 9) = k from Fin.ext hk]
  rfl

/-- Any scratchpad byte after a load, in one equation: the byte loaded at its index, what was there before elsewhere. -/
theorem loadSp_getElem (s : State) (k j : Fin 9) (b : Byte) :
    (s.loadSp k b).sp[j] = if j = k then some b else s.sp[j] := by
  by_cases hjk : j = k
  · rw [if_pos hjk, hjk, loadSp_same]
  · rw [if_neg hjk, loadSp_other s k j b (Ne.symm hjk)]

/-- R172's word is R91's, with the index in B. -/
theorem spLoad_word_eq_cmdWord (k : Fin 9) (b : Byte) :
    0x00000031#32 ||| (b.setWidth 32 <<< 8) ||| (BitVec.ofNat 32 k.val <<< 16) =
      cmdWord 0x31#8 b (BitVec.ofNat 8 k.val) := by
  have hidx : BitVec.ofNat 32 k.val = (BitVec.ofNat 8 k.val).setWidth 32 := by revert k; decide
  rw [hidx]
  exact or_shiftLeft_or_shiftLeft_eq_cmdWord 0x31#8 b _

theorem decode_cmdWord_spLoad (k : Fin 9) (b : Byte) :
    decode (.cmd (cmdWord 0x31#8 b (BitVec.ofNat 8 k.val))) = .ok (.spLoad (BitVec.ofNat 8 k.val) b) := by
  have hwf : (Instr.spLoad (BitVec.ofNat 8 k.val) b).wf = true :=
    decide_eq_true ((toNat_spIndex k).trans_le (Nat.le_of_lt_succ k.isLt))
  exact decode_cmdWord (r := opRows[13]) (List.getElem_mem _) (Laws.InRow.spLoad _ b) hwf

/-- R83: no row but SP_LOAD's has its OPC, and that row refuses an index above 8. -/
theorem issue_spLoad_of_index_gt (x : Extent) (w : Word) (s : State) (hopc : opcField w = 0x31#8)
    (hidx : 8 < (bField w).toNat) : issue x w s = .next { s with fault := 0x01#8 } := by
  rcases issue_cases x w s with ⟨_, _, hissue⟩ | ⟨i, hok, _⟩
  · exact hissue
  · obtain ⟨r, hr, hmatch, rfl, hwf⟩ := (decode_cmd_ok_iff w i).mp hok
    have hrow : r = opRows[13] :=
      eq_of_opcField_pat_eq hr (List.getElem_mem _) ((opcField_eq_of_match hr hmatch).symm.trans hopc)
    have hle : (bField w).toNat ≤ 8 := (build_wf_iff _ _ r hr).mp hwf (hrow ▸ rfl)
    omega

/-- Settles O31: the scratchpad afterwards is the one with the byte set, and the row of SP_LOAD leaves A free, and B up to 8. -/
theorem spLoadWritesScratchpadByte : Obligations.SpLoadWritesScratchpadByte :=
  ⟨fun s k b => ⟨_, exec_spLoad s k b, fun j => loadSp_getElem s k j b⟩,
    fun k b => spLoad_word_eq_cmdWord k b ▸ decode_cmdWord_spLoad k b, issue_spLoad_of_index_gt,
    reservedBitsFault_of_mem (r := opRows[13]) (List.getElem_mem _)⟩

/-! ### ADC_TEMP, ADC_VOLT and ADC_CURR (R175, R177, R179) -/

/-- What the three decode operations have in common: the two bytes of the scratchpad, extended to RESULT, or LATCH_UNWRITTEN. -/
def readHalf (ext : Half → Word) (lo hi : Fin 9) (s : State) : Host.Outcome State Fault Refusal :=
  match s.spHalf lo hi with
  | some raw => .next (s.setResult (ext raw))
  | none => .next (s.raiseFault .latchUnwritten)

theorem exec_adcTemp (s : State) : exec .adcTemp s = readHalf sext16 1 2 s := rfl
theorem exec_adcVolt (s : State) : exec .adcVolt s = readHalf zext16 3 4 s := rfl
theorem exec_adcCurr (s : State) : exec .adcCurr s = readHalf sext16 5 6 s := rfl

theorem readHalf_of_written {s : State} {lo hi : Fin 9} {l h : Byte} (ext : Half → Word) (hlo : s.sp[lo] = some l)
    (hhi : s.sp[hi] = some h) : readHalf ext lo hi s = .next { s with result := ext (halfOf l h) } := by
  rw [readHalf, spHalf_of_written hlo hhi]
  rfl

theorem readHalf_of_unwritten {s : State} {lo hi : Fin 9} (ext : Half → Word) (h : s.sp[lo] = none ∨ s.sp[hi] = none) :
    readHalf ext lo hi s = .next { s with fault := 0x02#8 } := by
  rw [readHalf, spHalf_of_unwritten h]
  rfl

/-- Settles O33: the sign extension of the two bytes is the word of their signed number. -/
theorem adcTempReadsSignedOrFaults : Obligations.AdcTempReadsSignedOrFaults :=
  ⟨fun _ l h hlo hhi => sext16_halfOf l h ▸ readHalf_of_written sext16 hlo hhi,
    fun _ h => readHalf_of_unwritten sext16 h, rfl, reservedBitsFault_of_mem (r := opRows[15]) (List.getElem_mem _)⟩

/-- Settles O34: the zero extension of the two bytes is the word of their unsigned number. -/
theorem adcVoltReadsUnsignedOrFaults : Obligations.AdcVoltReadsUnsignedOrFaults :=
  ⟨fun _ l h hlo hhi => zext16_halfOf l h ▸ readHalf_of_written zext16 hlo hhi,
    fun _ h => readHalf_of_unwritten zext16 h, rfl, reservedBitsFault_of_mem (r := opRows[16]) (List.getElem_mem _)⟩

/-- Settles O35: as O33 on the two current bytes; the shunt resistance is not read. -/
theorem adcCurrReadsSignedOrFaults : Obligations.AdcCurrReadsSignedOrFaults :=
  ⟨fun _ l h hlo hhi => sext16_halfOf l h ▸ readHalf_of_written sext16 hlo hhi,
    fun _ h => readHalf_of_unwritten sext16 h, rfl, reservedBitsFault_of_mem (r := opRows[17]) (List.getElem_mem _)⟩

/-! ### SP_CLEAR (R173) -/

theorem exec_spClear (s : State) : exec .spClear s = .next { s with sp := s.clearSp.sp } := rfl

theorem clearSp_getElem (s : State) (j : Fin 9) : s.clearSp.sp[j] = none := by simp

/-- No decode finds its bytes written. -/
theorem readHalf_clearSp (ext : Half → Word) (lo hi : Fin 9) (s : State) :
    readHalf ext lo hi s.clearSp = .next { s.clearSp with fault := 0x02#8 } :=
  readHalf_of_unwritten ext (.inl (clearSp_getElem s lo))

/-- Settles O32: each of the three decodes reads a byte that SP_CLEAR has made unwritten; its row leaves no bit free. -/
theorem spClearEmptiesScratchpad : Obligations.SpClearEmptiesScratchpad := by
  refine ⟨fun s => ⟨_, exec_spClear s, clearSp_getElem s⟩, fun s t h => ?_, rfl,
    reservedBitsFault_of_mem (r := opRows[14]) (List.getElem_mem _)⟩
  cases (exec_spClear s).symm.trans h
  simp only [List.forall_mem_cons]
  exact ⟨readHalf_clearSp sext16 1 2 s, readHalf_clearSp zext16 3 4 s, readHalf_clearSp sext16 5 6 s, nofun⟩

end Sys2Proof.Proofs.Analog
end

section
/-! PROOFS. ADC_POLL (43_analog.md R180 to R186), segment by segment: a free lock, a phase up to its initial reset, the steps
of the phase after it, and the publishes. Two ways through the segments are whole-state equations (O36, O38). -/

namespace Sys2Proof.Proofs.Sequencer
open Sys2Proof.Machine

/-- A poll operation that finds the lock free acquires it at once (R66). -/
theorem microSteps_acquire {s : State} (p : Position) (w : Work) (prog : List Micro) (h : s.lock = .free) :
    microSteps 1 (s.beginPoll p w prog) =
      { s with busy := true, seq := .running p, lock := .mine, todo := prog, work := w } := by
  rw [microSteps_cons 0 (s.beginPoll p w prog) .acquire prog rfl, microSteps, runMicro]
  simp [State.beginPoll, State.goto, h]

/-- END is the last step of every poll operation. -/
theorem microSteps_finish {t : State} (h : t.todo = [.finish]) : microSteps 1 t = t.finish := by
  rw [microSteps_cons 0 t .finish [] h]
  rfl

end Sys2Proof.Proofs.Sequencer

namespace Sys2Proof.Proofs.Analog
open Sys2Proof.Machine Sys2Proof.Claims Sys2Proof.Proofs.Sequencer

/-! ### The steps of a phase (R180) -/

/-- A phase from step 3 on, the steps that both phases have. -/
def fromConvertV : List Micro :=
  [.enter (.adcPoll .convertV), .reset, .select .adc, .wire 0xB4#8, .wait .tConvV,
    .enter (.adcPoll .recall), .reset, .select .adc, .wire 0xB8#8, .wait .tRecall,
    .enter (.adcPoll .readSp), .reset, .select .adc, .wire 0xBE#8]

/-- A phase after its initial reset. -/
def afterReset (ph : Phase) : List Micro :=
  .select .adc :: .wire 0x4E#8 :: .wait .tCfg :: (convertTProgram ph ++ fromConvertV)

/-- The reads of step 5, which follow the command on the wire (R87). -/
def readBytes : List Micro :=
  [.read (.sp 0), .read (.sp 1), .read (.sp 2), .read (.sp 3), .read (.sp 4), .read (.sp 5), .read (.sp 6), .read (.sp 7),
    .read (.sp 8)]

theorem measureProgram_eq (ph : Phase) :
    measureProgram ph =
      .setPhase ph :: .enter (.adcPoll .writeSp) :: .initialReset (phaseFailure ph) :: afterReset ph := rfl

/-- Whether a phase is the `first` of R180. -/
def isFirst : Phase → Bool
  | .one => true
  | .two => false

/-- A phase up to its initial reset. -/
theorem microSteps_phaseReset {t : State} {ph : Phase} {f : Failure} {rest : List Micro}
    (h : t.todo = .setPhase ph :: .enter (.adcPoll .writeSp) :: .initialReset f :: rest) :
    microSteps 3 t = initialReset f { t with
      seq := .running (.adcPoll .writeSp)
      work := { t.work with phase := ph }
      todo := rest } := by
  simp [microSteps, microStep, h, runMicro, State.goto, State.setWork, State.enter]

theorem wireByte_writeScratchpad (t : State) : wireByte 0x4E#8 t = wireWriteScratchpad t := rfl

/-- The configuration byte of a phase is no command: it is put on the bus and nothing follows it (R88). -/
theorem wireByte_phaseConfig (c : Cfg) (ph : Phase) (t : State) :
    wireByte (phaseConfig c ph) t = t.busWrite (configByte (isFirst ph) c.bindCurr) := by
  have hbyte : phaseConfig c ph = configByte (isFirst ph) c.bindCurr := by
    cases ph <;> exact cfgByte_eq_configByte _ _
  rw [hbyte]
  cases isFirst ph <;> cases c.bindCurr <;> rfl

/-- Step 1 after its reset. -/
theorem microSteps_writeSp {t : State} {rest : List Micro} (h : t.todo = .select .adc :: .wire 0x4E#8 :: .wait .tCfg :: rest) :
    microSteps 5 t = { t with
      todo := rest
      events := t.events ++ [.select t.cfg.addrAdc, .write 0x4E#8, .write 0x00#8,
        .write (configByte (isFirst t.work.phase) t.cfg.bindCurr), .wait .tCfg] } := by
  simp [microSteps, microStep, h, runMicro, wireByte_writeScratchpad, wireWriteScratchpad, wireByte_phaseConfig, deviceAddr,
    State.goto, State.push, State.busSelect, State.busWrite, State.busWait, State.emit]

/-- What each later step of a phase begins with. -/
theorem microSteps_command {t : State} {p : Position} {b : Byte} {rest : List Micro}
    (h : t.todo = .enter p :: .reset :: .select .adc :: .wire b :: rest) :
    microSteps 4 t = wireByte b { t with
      seq := .running p
      todo := rest
      resetPos := t.resetPos + 1
      events := t.events ++ [.reset (t.resetAnswer 0), .select t.cfg.addrAdc] } := by
  simp [microSteps, microStep, h, runMicro, deviceAddr, State.goto, State.enter, State.busReset, State.busSelect, State.emit,
    State.resetAnswer]

/-- A step after its wait, with `rest` still to be taken. -/
def stepped (p : AdcStep) (bytes : List Byte) (w : List WaitName) (rest : List Micro) (t : State) : State :=
  { t with
    seq := .running (.adcPoll p)
    todo := rest
    resetPos := t.resetPos + 1
    events := t.events ++ analogStep (t.resetAnswer 0) t.cfg.addrAdc bytes w }

/-- Steps 2 and 3: a command that nothing follows, and the wait. -/
theorem microSteps_convert {t : State} {p : AdcStep} {b : Byte} {w : WaitName} {rest : List Micro}
    (hb : ∀ u, wireByte b u = u.busWrite b)
    (h : t.todo = .enter (.adcPoll p) :: .reset :: .select .adc :: .wire b :: .wait w :: rest) :
    microSteps 5 t = stepped p [b] [w] rest t := by
  rw [microSteps_add 4 1, microSteps_command h, hb]
  simp [microSteps, microStep, runMicro, stepped, analogStep, State.goto, State.busWrite, State.busWait, State.emit]

/-- Step 4. -/
theorem microSteps_recall {t : State} {rest : List Micro}
    (h : t.todo = .enter (.adcPoll .recall) :: .reset :: .select .adc :: .wire 0xB8#8 :: .wait .tRecall :: rest) :
    microSteps 6 t = stepped .recall [0xB8#8, 0x00#8] [.tRecall] rest t := by
  rw [microSteps_add 4 2, microSteps_command h]
  simp [microSteps, microStep, runMicro, stepped, analogStep, wireByte, wireRecallMemory, State.goto, State.push,
    State.busWrite, State.busWait, State.emit]

/-- Step 5 up to its reads. -/
theorem microSteps_openReadSp {t : State} {rest : List Micro}
    (h : t.todo = .enter (.adcPoll .readSp) :: .reset :: .select .adc :: .wire 0xBE#8 :: rest) :
    microSteps 5 t = stepped .readSp [0xBE#8, 0x00#8] [] (readBytes ++ rest) t := by
  rw [microSteps_add 4 1, microSteps_command h]
  simp [microSteps, microStep, runMicro, stepped, analogStep, readBytes, wireByte, wireReadScratchpad, State.goto, State.push,
    State.busWrite, State.emit]

/-- Writing all nine bytes leaves nothing of the scratchpad before. -/
theorem set_nine (v : Vector (Option Byte) 9) (f : Nat → Option Byte) :
    ((((((((v.set 0 (f 0)).set 1 (f 1)).set 2 (f 2)).set 3 (f 3)).set 4 (f 4)).set 5 (f 5)).set 6 (f 6)).set 7 (f 7)).set 8
      (f 8) = #v[f 0, f 1, f 2, f 3, f 4, f 5, f 6, f 7, f 8] := by
  refine Vector.ext fun i hi => ?_
  interval_cases i <;> simp

/-- The nine reads of step 5 fill the scratchpad. -/
theorem microSteps_readBytes {t : State} {rest : List Micro} (h : t.todo = readBytes ++ rest) :
    microSteps 9 t = { t with
      todo := rest
      sp := scratchpad t 0
      readPos := t.readPos + 9
      events := t.events ++ (t.readAnswers 0 9).map .read } := by
  have hsp : scratchpad t 0 = _ := (set_nine t.sp fun i => some (t.readAnswer i)).symm
  have hreads : t.readAnswers 0 9 = [t.readAnswer 0, t.readAnswer 1, t.readAnswer 2, t.readAnswer 3, t.readAnswer 4,
    t.readAnswer 5, t.readAnswer 6, t.readAnswer 7, t.readAnswer 8] := rfl
  rw [hsp, hreads]
  simp [microSteps, microStep, h, readBytes, runMicro, State.goto, State.busRead, State.store, State.loadSp,
    State.readAnswer, Nat.add_assoc]

/-- The events of the steps that both phases have, with the answers from the `k`-th reset and the `r`-th read on. -/
def convertVEvents (s : State) (k r : Nat) : List Event :=
  analogStep (s.resetAnswer k) s.cfg.addrAdc [0xB4#8] [.tConvV] ++
    analogStep (s.resetAnswer (k + 1)) s.cfg.addrAdc [0xB8#8, 0x00#8] [.tRecall] ++
    analogStep (s.resetAnswer (k + 2)) s.cfg.addrAdc [0xBE#8, 0x00#8] [] ++ (s.readAnswers r 9).map .read

/-- Steps 3 to 5. -/
theorem microSteps_fromConvertV {t : State} {rest : List Micro} (h : t.todo = fromConvertV ++ rest) :
    microSteps 25 t = { t with
      seq := .running (.adcPoll .readSp)
      todo := rest
      sp := scratchpad t 0
      resetPos := t.resetPos + 3
      readPos := t.readPos + 9
      events := t.events ++ convertVEvents t 0 0 } := by
  rw [microSteps_add 5 20, microSteps_convert (fun _ => rfl) h, microSteps_add 6 14, microSteps_recall rfl,
    microSteps_add 5 9, microSteps_openReadSp rfl, microSteps_readBytes rfl]
  simp [stepped, convertVEvents, scratchpad, State.resetAnswer, State.readAnswers, State.readAnswer, Nat.add_assoc]

/-! ### A phase as a whole -/

/-- A phase whose initial reset a device answers, after step 1. -/
theorem microSteps_resetAndWriteSp {t : State} {ph : Phase} {rest : List Micro} (hpresent : t.resetAnswer 0 = true)
    (h : t.todo = measureProgram ph ++ rest) :
    microSteps 8 t = { t with
      seq := .running (.adcPoll .writeSp)
      todo := convertTProgram ph ++ fromConvertV ++ rest
      work := { t.work with phase := ph }
      present := true
      resetPos := t.resetPos + 1
      events := t.events ++
        analogStep (t.resetAnswer 0) t.cfg.addrAdc [0x4E#8, 0x00#8, configByte (isFirst ph) t.cfg.bindCurr] [.tCfg] } := by
  rw [measureProgram_eq] at h
  rw [microSteps_add 3 5, microSteps_phaseReset h, initialReset_of_present, microSteps_writeSp rfl]
  · simp [analogStep, hpresent]
  · exact hpresent

/-- The steps a phase takes. -/
def measureLength : Phase → Nat
  | .one => 38
  | .two => 33

/-- A phase whose initial reset a device answers, after its reads, with `rest` still to be taken. -/
def measured (ph : Phase) (rest : List Micro) (t : State) : State :=
  { t with
    seq := .running (.adcPoll .readSp)
    todo := rest
    work := { t.work with phase := ph }
    present := true
    sp := scratchpad t 0
    resetPos := t.resetPos + (if isFirst ph then 5 else 4)
    readPos := t.readPos + 9
    events := t.events ++ measureEvents t (isFirst ph) 0 0 }

/-- R180: phase 1 has all five steps, phase 2 leaves out step 2. -/
theorem microSteps_measure {t : State} {ph : Phase} {rest : List Micro} (hpresent : t.resetAnswer 0 = true)
    (h : t.todo = measureProgram ph ++ rest) : microSteps (measureLength ph) t = measured ph rest t := by
  cases ph with
  | one =>
    rw [measureLength, microSteps_add 8 30, microSteps_resetAndWriteSp hpresent h, microSteps_add 5 25,
      microSteps_convert (fun _ => rfl) rfl, microSteps_fromConvertV rfl]
    simp [measured, stepped, measureEvents, convertVEvents, scratchpad, isFirst, State.resetAnswer, State.readAnswers,
      State.readAnswer, Nat.add_assoc]
  | two =>
    rw [measureLength, microSteps_add 8 25, microSteps_resetAndWriteSp hpresent h, microSteps_fromConvertV rfl]
    simp [measured, convertTProgram, measureEvents, convertVEvents, scratchpad, isFirst, State.resetAnswer,
      State.readAnswers, State.readAnswer, Nat.add_assoc]

/-! ### The publishes (R181) -/

/-- A publish of a reading whose two bytes are written. -/
theorem microSteps_publishReading {t : State} {ch : AdcChannel} {q : Rat} {rest : List Micro} (hq : t.reading ch = some q)
    (h : t.todo = .publishReading ch :: rest) :
    microSteps 1 t = (t.emit [.publish ch.channel (.num q)]).goto rest := by
  have hq' : (t.goto rest).reading ch = some q := hq
  rw [microSteps_cons 0 t _ rest h, runMicro, publishReading, hq']
  rfl

theorem microSteps_publishIf {t : State} {bound : Bool} {ch : AdcChannel} {q : Rat} {rest : List Micro}
    (hq : t.reading ch = some q) (h : t.todo = publishIf bound ch ++ rest) :
    microSteps (publishIf bound ch).length t = (t.emit (ifBound bound ch.channel q)).goto rest := by
  cases bound with
  | false =>
    have htodo : t.todo = rest := h
    simp [publishIf, ifBound, microSteps, State.emit, State.goto, ← htodo]
  | true => exact microSteps_publishReading hq h

/-- The publishes of phase 1, each iff its channel is bound. -/
def publishProgram (c : Cfg) : List Micro :=
  publishIf c.bindTemp .temp ++ (publishIf c.bindVdd .vdd ++ publishIf c.bindCurr .curr)

theorem publishProgram_length_le (c : Cfg) : (publishProgram c).length ≤ 3 := by
  have hle (bound : Bool) (ch : AdcChannel) : (publishIf bound ch).length ≤ 1 := by cases bound <;> simp [publishIf]
  have := hle c.bindTemp .temp
  have := hle c.bindVdd .vdd
  have := hle c.bindCurr .curr
  simp only [publishProgram, List.length_append]
  omega

theorem reading_temp_of_scratchpad {s t : State} {r : Nat} (hsp : t.sp = scratchpad s r) :
    t.reading .temp = some ((signed (s.readAnswer (r + 1)) (s.readAnswer (r + 2)) : Rat) / 256) :=
  reading_temp (by rw [hsp]; rfl) (by rw [hsp]; rfl)

theorem reading_vdd_of_scratchpad {s t : State} {r : Nat} (hsp : t.sp = scratchpad s r) :
    t.reading .vdd = some ((unsigned (s.readAnswer (r + 3)) (s.readAnswer (r + 4)) : Rat) / 100) :=
  (reading_volt (by rw [hsp]; rfl) (by rw [hsp]; rfl)).1

theorem reading_vad_of_scratchpad {s t : State} {r : Nat} (hsp : t.sp = scratchpad s r) :
    t.reading .vad = some ((unsigned (s.readAnswer (r + 3)) (s.readAnswer (r + 4)) : Rat) / 100) :=
  (reading_volt (by rw [hsp]; rfl) (by rw [hsp]; rfl)).2

theorem reading_curr_of_scratchpad {s t : State} {r : Nat} (hsp : t.sp = scratchpad s r) :
    t.reading .curr =
      some ((signed (s.readAnswer (r + 5)) (s.readAnswer (r + 6)) : Rat) * 2441 / (10000000 * t.cfg.shunt)) :=
  reading_curr (by rw [hsp]; rfl) (by rw [hsp]; rfl)

/-- Every publish of phase 1 is of the first nine bytes read from `s` on. -/
theorem microSteps_publishProgram {s t : State} {rest : List Micro} (hcfg : t.cfg = s.cfg) (hsp : t.sp = scratchpad s 0)
    (h : t.todo = publishProgram s.cfg ++ rest) :
    microSteps (publishProgram s.cfg).length t = (t.emit (phase1Publishes s)).goto rest := by
  rw [publishProgram, List.append_assoc, List.append_assoc] at h
  rw [publishProgram, List.length_append, List.length_append, microSteps_add,
    microSteps_publishIf (reading_temp_of_scratchpad hsp) h, microSteps_add,
    microSteps_publishIf (t := (t.emit _).goto _) (reading_vdd_of_scratchpad hsp) rfl,
    microSteps_publishIf (t := (((t.emit _).goto _).emit _).goto _) (reading_curr_of_scratchpad hsp) rfl]
  simp [State.emit, State.goto, phase1Publishes, AdcChannel.channel, hcfg]

/-! ### Two ways through ADC_POLL -/

theorem adcProgram_eq (c : Cfg) :
    adcProgram c = measureProgram .one ++ (publishProgram c ++ .outcome .ok :: (phase2Program c ++ [.finish])) := by
  simp [adcProgram, publishProgram]

/-- The block holding the lock, with the whole of ADC_POLL still to be taken. -/
def holdingLock (s : State) : State :=
  { s with busy := true, seq := .running (.adcPoll .writeSp), lock := .mine, todo := adcProgram s.cfg, work := Work.none }

theorem microSteps_beginAdcPoll {s : State} (h : s.Ready) : microSteps 1 (beginAdcPoll s) = holdingLock s :=
  microSteps_acquire (.adcPoll .writeSp) Work.none (adcProgram s.cfg) h.lock

/-- A run that comes to its end within the fuel is what the whole operation answers. -/
theorem exec_adcPoll_of_run {k : Nat} {s t : State} (hk : k ≤ pollFuel) (hrun : microSteps k (beginAdcPoll s) = t)
    (hend : t.todo = []) : exec .adcPoll s = .next t :=
  congrArg Host.Outcome.next (microSteps_of_ended hk hrun hend)

/-- Settles O36: the lock, the initial reset of phase 1, then the failure's course. -/
theorem adcPollBusUnreachable : Obligations.AdcPollBusUnreachable := by
  intro s h habsent
  refine exec_adcPoll_of_run (k := 1 + (3 + 2)) (by decide) ?_ h.todo
  have htodo : (holdingLock s).todo = _ := (adcProgram_eq s.cfg).trans (congrArg (· ++ _) (measureProgram_eq .one))
  rw [microSteps_add, microSteps_beginAdcPoll h, microSteps_add, microSteps_phaseReset htodo, initialReset_of_absent,
    microSteps_outcome_finish .busUnreachable _ rfl]
  · simp [State.finish, State.setOutcome, holdingLock, OutcomeCode.code, h.busy, h.seq, h.lock, h.todo, h.work]
  · exact habsent

/-- The end of phase 1 (R181): its publishes are made and OUTCOME is OK. -/
def phase1Done (s : State) : State :=
  { s with
    busy := true
    seq := .running (.adcPoll .readSp)
    lock := .mine
    todo := phase2Program s.cfg ++ [.finish]
    work := Work.none
    present := true
    outcome := 0#4
    sp := scratchpad s 0
    resetPos := s.resetPos + 5
    readPos := s.readPos + 9
    events := s.events ++ measureEvents s true 0 0 ++ phase1Publishes s }

/-- The steps ADC_POLL takes to the end of phase 1. -/
def phase1Length (c : Cfg) : Nat := 1 + (measureLength .one + ((publishProgram c).length + 1))

theorem phase1Length_le (c : Cfg) : phase1Length c ≤ 43 := by
  have := publishProgram_length_le c
  simp only [phase1Length, measureLength]
  omega

theorem microSteps_phase1 {s : State} (h : s.Ready) (hpresent : s.resetAnswer 0 = true) :
    microSteps (phase1Length s.cfg) (beginAdcPoll s) = phase1Done s := by
  rw [phase1Length, microSteps_add, microSteps_beginAdcPoll h, microSteps_add,
    microSteps_measure (ph := .one) (t := holdingLock s) hpresent (adcProgram_eq s.cfg), microSteps_add,
    microSteps_publishProgram (s := s) (t := measured .one _ (holdingLock s)) rfl rfl rfl,
    microSteps_cons 0 _ (.outcome .ok) _ rfl]
  rfl

theorem phase2Program_of_bound {c : Cfg} (h : c.bindVad = true) :
    phase2Program c = measureProgram .two ++ [.publishReading .vad] := if_pos h

/-- What the transport answers from the end of phase 1 on is what it answers `s` after five resets and nine reads. -/
theorem measureEvents_phase1Done (s : State) : measureEvents (phase1Done s) false 0 0 = measureEvents s false 5 9 := by
  simp [measureEvents, phase1Done, State.resetAnswer, State.readAnswers, State.readAnswer, List.range', Nat.add_assoc]

theorem scratchpad_phase1Done (s : State) : scratchpad (phase1Done s) 0 = scratchpad s 9 := by
  simp [scratchpad, phase1Done, State.readAnswer, Nat.add_assoc]

/-- The end of phase 2, before its publish (R182). -/
def phase2Measured (s : State) : State :=
  { s with
    busy := true
    seq := .running (.adcPoll .readSp)
    lock := .mine
    todo := [.publishReading .vad, .finish]
    work := { Work.none with phase := .two }
    present := true
    outcome := 0#4
    sp := scratchpad s 9
    resetPos := s.resetPos + 9
    readPos := s.readPos + 18
    events := s.events ++ measureEvents s true 0 0 ++ phase1Publishes s ++ measureEvents s false 5 9 }

theorem microSteps_phase2 {s : State} (hbound : s.cfg.bindVad = true) (hpresent : s.resetAnswer 5 = true) :
    microSteps (measureLength .two) (phase1Done s) = phase2Measured s := by
  have htodo : (phase1Done s).todo = measureProgram .two ++ [.publishReading .vad, .finish] := by
    show phase2Program s.cfg ++ [.finish] = _
    rw [phase2Program_of_bound hbound, List.append_assoc]
    rfl
  rw [microSteps_measure hpresent htodo, measured, isFirst, measureEvents_phase1Done, scratchpad_phase1Done]
  rfl

/-- Settles O38: phase 1 to its end, then phase 2 and its publish. -/
theorem adcPollTwoPhases : Obligations.AdcPollTwoPhases := by
  intro s h hbound hpresent1 hpresent2
  refine exec_adcPoll_of_run (k := phase1Length s.cfg + (measureLength .two + (1 + 1))) ?_ ?_ h.todo
  · have := phase1Length_le s.cfg
    simp only [measureLength, pollFuel]
    omega
  · rw [microSteps_add, microSteps_phase1 h hpresent1, microSteps_add, microSteps_phase2 hbound hpresent2, microSteps_add,
      microSteps_publishReading (t := phase2Measured s) (reading_vad_of_scratchpad rfl) rfl, microSteps_finish rfl]
    simp [State.finish, phase2Measured, phase2Publish, AdcChannel.channel, h.busy, h.seq, h.lock, h.todo, h.work]

end Sys2Proof.Proofs.Analog
end

section
/-! PROOFS. Decode and encode (30_encoding.md): the round trip in both directions, row by row of the operation map and byte by byte
of the wire command set; the settling of O1, O3, O4 and O5. -/

namespace Sys2Proof.Proofs.Encoding
open Sys2Proof.Machine Sys2Proof.Claims

/-! ### From the instruction to its code and back -/

theorem decode_cmdWord_crcUpdate (b : Byte) : decode (.cmd (cmdWord 0x02#8 b 0#8)) = .ok (.crcUpdate b) :=
  decode_cmdWord (r := opRows[1]) (List.getElem_mem _) (Laws.InRow.crcUpdate b) rfl

/-- The trailer operand is put together again from its two bytes. -/
theorem trailerOperand_extract (t : Half) : trailerOperand (t.extractLsb' 0 8) (t.extractLsb' 8 8) = t :=
  BitVec.extractLsb'_append_extractLsb'_eq_extractLsb' (by rfl) |>.trans (BitVec.extractLsb'_eq_self)

theorem decode_encode_crcCheck (t : Half) : decode (encode (.crcCheck t)) = .ok (.crcCheck t) :=
  (Crc.decode_cmdWord_crcCheck _ _).trans (congrArg (Except.ok ∘ Instr.crcCheck) (trailerOperand_extract t))

theorem decode_cmdWord_cntPoll (sel : Counter) :
    decode (.cmd (cmdWord 0x24#8 (selByte sel) 0#8)) = .ok (.cntPoll sel) := by
  have hbuild : opRows[11].build (selByte sel) 0#8 = .cntPoll sel := by cases sel <;> rfl
  exact hbuild ▸ decode_cmdWord (List.getElem_mem _) (Laws.InRow.cntPoll sel) rfl

/-- The operations without operands and the bytes on the wire are finitely many codes; each of the others decodes by the row it
lies in. -/
theorem decode_encode (i : Instr) (h : i.wf = true) : decode (encode i) = .ok i := by
  cases i with
  | crcUpdate b => exact decode_cmdWord_crcUpdate b
  | crcCheck t => exact decode_encode_crcCheck t
  | gpioDecode v => exact Gpio.decode_cmdWord_gpioDecode v
  | edgeDetect v => exact Gpio.decode_cmdWord_edgeDetect v
  | cntPage sel => exact Counter.decode_cmdWord_cntPage sel
  | cntLoad k b => exact Counter.decode_cmdWord_cntLoad k b
  | cntPoll sel => exact decode_cmdWord_cntPoll sel
  | adcConfig vdd iad => exact Analog.decode_cmdWord_adcConfig vdd iad
  | spLoad k b => exact decode_cmdWord (r := opRows[13]) (List.getElem_mem _) (Laws.InRow.spLoad k b) h
  | crcInit | gpioFail | gpioPoll | cntAssemble | cntClear | spClear | adcTemp | adcVolt | adcCurr | adcPoll => rfl
  | wireReadRegister | wireReadMemoryCounter | wireWriteScratchpad | wireConvertT | wireConvertV | wireRecallMemory
  | wireReadScratchpad | cfgVddIad0 | cfgVddIad1 | cfgVadIad0 | cfgVadIad1 => rfl

/-- Settles O3, by cases on the instruction. -/
theorem decodeOfEncode : Obligations.DecodeOfEncode := decode_encode

/-! ### From the code to its instruction and back -/

/-- A word with C = 0 is R91's word of its three low bytes. -/
theorem eq_cmdWord_of_high_byte_zero {w : Word} (h : w.extractLsb' 24 8 = 0#8) :
    w = cmdWord (opcField w) (aField w) (bField w) := by
  have hhigh : w.extractLsb' 24 8 ++ bField w = w.extractLsb' 16 16 :=
    BitVec.extractLsb'_append_extractLsb'_eq_extractLsb' rfl
  have hlow : aField w ++ opcField w = w.extractLsb' 0 16 := BitVec.extractLsb'_append_extractLsb'_eq_extractLsb' rfl
  have hword : w.extractLsb' 16 16 ++ w.extractLsb' 0 16 = w.extractLsb' 0 32 :=
    BitVec.extractLsb'_append_extractLsb'_eq_extractLsb' rfl
  rw [cmdWord, ← h, hhigh, hlow, hword, BitVec.extractLsb'_eq_self]

/-- Every row reserves C and has 0 in every operand bit of its match. -/
theorem operands_of_row : ∀ r ∈ opRows, r.mask.extractLsb' 24 8 = 0xFF#8 ∧ r.pat.extractLsb' 24 8 = 0#8 ∧
    aField r.pat = 0#8 ∧ bField r.pat = 0#8 := by decide

/-- A byte none of whose bits is free is 0. -/
theorem eq_zero_of_and_ones {x : Byte} (h : x &&& 0xFF#8 = 0#8) : x = 0#8 := BitVec.and_allOnes.symm.trans h

/-- A word that matches a row is R91's word, and its operand bytes have no bit set that the row's mask does not leave free. -/
theorem fields_of_match {w : Word} {r : OpRow} (hr : r ∈ opRows) (h : w &&& r.mask = r.pat) :
    w = cmdWord (opcField r.pat) (aField w) (bField w) ∧
      aField w &&& aField r.mask = 0#8 ∧ bField w &&& bField r.mask = 0#8 := by
  obtain ⟨hcmask, hcpat, hapat, hbpat⟩ := operands_of_row r hr
  have hfield (lo : Nat) : w.extractLsb' lo 8 &&& r.mask.extractLsb' lo 8 = r.pat.extractLsb' lo 8 := by
    rw [← BitVec.extractLsb'_and, h]
  have hc : w.extractLsb' 24 8 = 0#8 := eq_zero_of_and_ones (by rw [← hcmask, hfield 24, hcpat])
  refine ⟨?_, (hfield 8).trans hapat, (hfield 16).trans hbpat⟩
  rw [← opcField_eq_of_match hr h]
  exact eq_cmdWord_of_high_byte_zero hc

theorem selByte_selOperand : ∀ a : Byte, a &&& 0xFE#8 = 0#8 → selByte (selOperand a) = a := by decide

theorem ofNat_cntIndexOperand : ∀ b : Byte, b &&& 0xFC#8 = 0#8 → BitVec.ofNat 8 (cntIndexOperand b).val = b := by decide

theorem adcConfigByte_getLsbD : ∀ a : Byte, a &&& 0xFC#8 = 0#8 → adcConfigByte (a.getLsbD 0) (a.getLsbD 1) = a := by decide

/-- The two bytes of a trailer operand are its parts. -/
theorem encode_trailerOperand (a b : Byte) : encode (.crcCheck (trailerOperand a b)) = .cmd (cmdWord 0x03#8 a b) := by
  have ha : (trailerOperand a b).extractLsb' 0 8 = a := BitVec.extractLsb'_append_eq_right
  have hb : (trailerOperand a b).extractLsb' 8 8 = b := BitVec.extractLsb'_append_eq_left
  rw [encode, ha, hb]

/-- Each row's operation is encoded with the operand bytes it was built from. -/
theorem encode_build (a b : Byte) : ∀ r ∈ opRows, a &&& aField r.mask = 0#8 → b &&& bField r.mask = 0#8 →
    encode (r.build a b) = .cmd (cmdWord (opcField r.pat) a b) := by
  have hnone (i : Instr) (opc : Byte) (h : encode i = .cmd (cmdWord opc 0#8 0#8)) (ha : a &&& 0xFF#8 = 0#8)
      (hb : b &&& 0xFF#8 = 0#8) : encode i = .cmd (cmdWord opc a b) := by
    rw [h, eq_zero_of_and_ones ha, eq_zero_of_and_ones hb]
  have hbyte (i : Instr) (opc : Byte) (h : encode i = .cmd (cmdWord opc a 0#8)) (hb : b &&& 0xFF#8 = 0#8) :
      encode i = .cmd (cmdWord opc a b) := by
    rw [h, eq_zero_of_and_ones hb]
  have hsel (opc : Byte) (i : Counter → Instr) (h : ∀ sel, encode (i sel) = .cmd (cmdWord opc (selByte sel) 0#8))
      (ha : a &&& 0xFE#8 = 0#8) : encode (i (selOperand a)) = .cmd (cmdWord opc a 0#8) := by
    rw [h, selByte_selOperand a ha]
  simp only [opRows, opRowsCrcGpio, opRowsCntAdc, List.cons_append, List.nil_append, List.forall_mem_cons]
  refine ⟨hnone .crcInit _ rfl, fun _ => hbyte (.crcUpdate a) _ rfl, fun _ _ => encode_trailerOperand a b,
    fun _ => hbyte (.gpioDecode a) _ rfl, fun _ => hbyte (.edgeDetect a) _ rfl, hnone .gpioFail _ rfl,
    hnone .gpioPoll _ rfl, fun ha => hbyte _ _ (hsel 0x20#8 .cntPage (fun _ => rfl) ha), fun _ hb => ?_,
    hnone .cntAssemble _ rfl, hnone .cntClear _ rfl, fun ha => hbyte _ _ (hsel 0x24#8 .cntPoll (fun _ => rfl) ha),
    fun ha => hbyte _ _ ?_, fun _ _ => rfl, hnone .spClear _ rfl, hnone .adcTemp _ rfl, hnone .adcVolt _ rfl,
    hnone .adcCurr _ rfl, hnone .adcPoll _ rfl, nofun⟩
  · exact congrArg (fun k => Code.cmd (cmdWord 0x21#8 a k)) (ofNat_cntIndexOperand b hb)
  · exact congrArg (fun k => Code.cmd (cmdWord 0x30#8 k 0#8)) (adcConfigByte_getLsbD a ha)

/-- Each row of the wire command set has the byte its instruction is encoded as. -/
theorem encode_wireRow : ∀ r ∈ wireRows, encode r.2 = .wire r.1 ∧ r.2.wf = true := by decide

/-- A byte that decodes has a row. -/
theorem find?_of_decodeWire {b : Byte} {i : Instr} (h : decodeWire b = .ok i) :
    ∃ r, wireRows.find? (fun r => r.1 == b) = some r ∧ r.2 = i := by
  unfold decodeWire at h
  split at h
  · exact ⟨_, ‹_›, Except.ok.inj h⟩
  · cases h

/-- What a code decodes to is encoded as that code, and is well formed. -/
theorem encode_of_decode (c : Code) (i : Instr) (h : decode c = .ok i) : encode i = c ∧ i.wf = true := by
  cases c with
  | cmd w =>
    obtain ⟨r, hr, hmatch, rfl, hwf⟩ := (decode_cmd_ok_iff w i).mp h
    obtain ⟨hw, ha, hb⟩ := fields_of_match hr hmatch
    exact ⟨(encode_build _ _ r hr ha hb).trans (congrArg Code.cmd hw.symm), hwf⟩
  | wire b =>
    obtain ⟨r, hr, rfl⟩ := find?_of_decodeWire h
    obtain ⟨henc, hwf⟩ := encode_wireRow r (List.mem_of_find?_eq_some hr)
    have hbyte : r.1 = b := by simpa using List.find?_some hr
    exact ⟨henc.trans (congrArg Code.wire hbyte), hwf⟩

/-- Settles O4: a word is decoded by the row it matches, a byte by its row of the wire command set. -/
theorem encodeOfDecode : Obligations.EncodeOfDecode := encode_of_decode

/-! ### Words written out -/

/-- Settles O1: each code is decoded by evaluation. -/
theorem specWordsDecode : Obligations.SpecWordsDecode :=
  ⟨rfl, rfl, rfl, rfl, rfl, rfl, rfl, rfl, rfl, rfl⟩

/-- Settles O5: R91's layout for every field, and the assembler run on the rule's three lines. -/
theorem assembledWordLayout : Obligations.AssembledWordLayout :=
  ⟨fun opc a b => (or_shiftLeft_or_shiftLeft_eq_cmdWord opc a b).symm, by decide, by decide, by decide⟩

end Sys2Proof.Proofs.Encoding
end

section
/-! PROOFS. The fold of the CRC unit (40_crc.md R100, R106): as a number (O6), linear (O7), and as CRC_UPDATE and CRC_BYTES use it
(O9, O11). -/

namespace Sys2Proof.Proofs.Crc
open Sys2Proof.Machine Sys2Proof.Claims Sys2Proof.Proofs.Encoding

/-! ### The fold in numbers (R100) -/

/-- One round, as a number. -/
def roundNumber (poly x : Nat) : Nat := if x % 2 = 1 then (x / 2) ^^^ poly else x / 2

theorem toNat_crcShift (poly x : Half) : (crcShift poly x).toNat = roundNumber poly.toNat x.toNat := by
  have hbit : x.getLsbD 0 = decide (x.toNat % 2 = 1) := by
    rw [BitVec.getLsbD, Nat.testBit_zero]
  have hhalf : (x >>> 1).toNat = x.toNat / 2 := by
    rw [BitVec.toNat_ushiftRight, Nat.shiftRight_one]
  rw [crcShift, roundNumber, hbit]
  split_ifs with h1 h2 h3
  · rw [BitVec.toNat_xor, hhalf]
  · exact absurd (of_decide_eq_true h1) h2
  · exact absurd (decide_eq_true h3) h1
  · exact hhalf

theorem toNat_crcShifts (poly : Half) (n : Nat) (x : Half) :
    (crcShifts poly n x).toNat = (roundNumber poly.toNat)^[n] x.toNat := by
  induction n generalizing x with
  | zero => rfl
  | succ n ih => rw [crcShifts, ih, toNat_crcShift, Function.iterate_succ_apply]

theorem toNat_crc16Update (poly acc : Half) (b : Byte) :
    (crc16Update poly acc b).toNat = foldNumber poly.toNat acc.toNat b.toNat := by
  rw [crc16Update, toNat_crcShifts, BitVec.toNat_xor, BitVec.toNat_setWidth_of_le (by decide)]
  rfl

/-- Settles O6: the rounds halve a number, so the fold does; a list is folded byte by byte. -/
theorem crcFoldsBytesLsbFirst : Obligations.CrcFoldsBytesLsbFirst :=
  ⟨toNat_crc16Update, toNat_crc16Update 0xA001#16, fun _ _ => rfl, fun _ _ _ _ => rfl⟩

/-! ### Linearity (R106 (a)) -/

/-- A round is linear: where both lowest bits are 1, the two feedback constants cancel. -/
theorem crcShift_xor (poly x y : Half) : crcShift poly (x ^^^ y) = crcShift poly x ^^^ crcShift poly y := by
  have hcancel : (x >>> 1 ^^^ poly) ^^^ (y >>> 1 ^^^ poly) = x >>> 1 ^^^ y >>> 1 := by
    rw [show (x >>> 1 ^^^ poly) ^^^ (y >>> 1 ^^^ poly) = (x >>> 1 ^^^ y >>> 1) ^^^ (poly ^^^ poly) by ac_rfl,
      BitVec.xor_self, BitVec.xor_zero]
  have hright : x >>> 1 ^^^ y >>> 1 ^^^ poly = (x >>> 1 ^^^ poly) ^^^ y >>> 1 := by ac_rfl
  rw [crcShift, crcShift, crcShift, BitVec.getLsbD_xor, BitVec.ushiftRight_xor_distrib]
  cases x.getLsbD 0 <;> cases y.getLsbD 0
  · rfl
  · exact BitVec.xor_assoc _ _ _
  · exact hright
  · exact hcancel.symm

theorem crcShifts_xor (poly : Half) (n : Nat) (x y : Half) :
    crcShifts poly n (x ^^^ y) = crcShifts poly n x ^^^ crcShifts poly n y := by
  induction n generalizing x y with
  | zero => rfl
  | succ n ih => rw [crcShifts, crcShifts, crcShifts, crcShift_xor, ih]

theorem crc16Update_xor (poly s t : Half) (a b : Byte) :
    crc16Update poly (s ^^^ t) (a ^^^ b) = crc16Update poly s a ^^^ crc16Update poly t b := by
  have harg : s ^^^ t ^^^ (a ^^^ b).setWidth 16 = (s ^^^ a.setWidth 16) ^^^ (t ^^^ b.setWidth 16) := by
    rw [BitVec.setWidth_xor]
    ac_rfl
  rw [crc16Update, harg, crcShifts_xor]
  rfl

/-- The CRC of the XOR of two lists of one length. -/
theorem crc16_xor (poly s t : Half) {x y : List Byte} (h : x.length = y.length) :
    crc16 poly s x ^^^ crc16 poly t y = crc16 poly (s ^^^ t) (List.zipWith (· ^^^ ·) x y) := by
  induction x generalizing s t y with
  | nil =>
    cases y with
    | nil => rfl
    | cons b y => cases h
  | cons a x ih =>
    cases y with
    | nil => cases h
    | cons b y =>
      have hrest := ih (crc16Update poly s a) (crc16Update poly t b) (Nat.succ.inj h)
      rw [← crc16Update_xor] at hrest
      exact hrest

/-! ### The residue (R106 (b)) -/

/-- A round halves an even number. -/
theorem toNat_crcShift_of_even (poly x : Half) (m : Nat) (h : x.toNat = 2 * m) : (crcShift poly x).toNat = m := by
  rw [toNat_crcShift, h, roundNumber, if_neg (by omega)]
  omega

/-- Rounds that shift out only zeros undo a shift. -/
theorem crcShifts_shiftLeft (poly : Half) (n : Nat) (x : Half) (h : x.toNat * 2 ^ n < 2 ^ 16) :
    crcShifts poly n (x <<< n) = x := by
  induction n with
  | zero => exact BitVec.shiftLeft_zero x
  | succ n ih =>
    have hlt : x.toNat * 2 ^ n < 2 ^ 16 := by
      rw [Nat.pow_succ, ← Nat.mul_assoc] at h
      omega
    have hnext : (x <<< (n + 1)).toNat = 2 * (x.toNat * 2 ^ n) := by
      rw [BitVec.toNat_shiftLeft, Nat.shiftLeft_eq, Nat.mod_eq_of_lt h, Nat.pow_succ]
      ring
    have hround : crcShift poly (x <<< (n + 1)) = x <<< n := by
      apply BitVec.eq_of_toNat_eq
      rw [toNat_crcShift_of_even poly _ _ hnext, BitVec.toNat_shiftLeft, Nat.shiftLeft_eq, Nat.mod_eq_of_lt hlt]
    rw [crcShifts, hround, ih hlt]

/-- With a feedback constant whose highest bit is set, the highest bit after a round tells which bit was shifted out. -/
theorem eq_zero_of_crcShift_eq_zero {poly x : Half} (hpoly : poly.getLsbD 15 = true) (h : crcShift poly x = 0#16) :
    x = 0#16 := by
  rw [crcShift] at h
  split_ifs at h with hbit
  · have htop : (x >>> 1 ^^^ poly).getLsbD 15 = false := by rw [h]; rfl
    rw [BitVec.getLsbD_xor, hpoly, BitVec.getLsbD_ushiftRight, BitVec.getLsbD_of_ge x (1 + 15) (by decide)] at htop
    cases htop
  · have hhalf := congrArg BitVec.toNat h
    rw [BitVec.toNat_ushiftRight, Nat.shiftRight_one] at hhalf
    rw [BitVec.getLsbD, Nat.testBit_zero, decide_eq_true_iff] at hbit
    apply BitVec.eq_of_toNat_eq
    simp only [BitVec.toNat_ofNat] at hhalf ⊢
    omega

theorem crcShifts_zero (poly : Half) (n : Nat) : crcShifts poly n 0#16 = 0#16 := by
  induction n with
  | zero => rfl
  | succ n ih => exact ih

theorem crcShifts_eq_zero_iff {poly : Half} (hpoly : poly.getLsbD 15 = true) (n : Nat) (x : Half) :
    crcShifts poly n x = 0#16 ↔ x = 0#16 := by
  refine ⟨fun h => ?_, fun h => h ▸ crcShifts_zero poly n⟩
  induction n generalizing x with
  | zero => exact h
  | succ n ih => exact eq_zero_of_crcShift_eq_zero hpoly (ih _ h)

theorem crcShifts_add (poly : Half) (m n : Nat) (x : Half) :
    crcShifts poly (m + n) x = crcShifts poly n (crcShifts poly m x) := by
  induction m generalizing x with
  | zero => rw [Nat.zero_add]; rfl
  | succ m ih => rw [Nat.succ_add, crcShifts, crcShifts, ih]

/-- A u16 from its two bytes. -/
theorem low_xor_high (t : Half) :
    (t.extractLsb' 0 8).setWidth 16 ^^^ ((t.extractLsb' 8 8).setWidth 16 <<< 8) = t := by
  apply BitVec.eq_of_getLsbD_eq
  intro i hi
  by_cases hlow : i < 8
  · simp [hlow, hi]
  · simp [hlow, hi, show i - 8 < 8 by omega, show 8 + (i - 8) = i by omega]

/-- Folding the two bytes of a trailer, low first, is sixteen rounds on its difference from the accumulator. -/
theorem crc16_trailer (poly acc t : Half) :
    crc16 poly acc [t.extractLsb' 0 8, t.extractLsb' 8 8] = crcShifts poly 16 (acc ^^^ t) := by
  have hhigh : ((t.extractLsb' 8 8).setWidth 16).toNat * 2 ^ 8 < 2 ^ 16 := by
    rw [BitVec.toNat_setWidth_of_le (by decide)]
    have := (t.extractLsb' 8 8).isLt
    omega
  show crcShifts poly 8 (crcShifts poly 8 (acc ^^^ (t.extractLsb' 0 8).setWidth 16) ^^^ (t.extractLsb' 8 8).setWidth 16) = _
  rw [← crcShifts_shiftLeft poly 8 _ hhigh, ← crcShifts_xor, BitVec.xor_assoc, low_xor_high, ← crcShifts_add]

theorem crc16_append (poly s : Half) (x y : List Byte) : crc16 poly s (x ++ y) = crc16 poly (crc16 poly s x) y :=
  List.foldl_append

/-- R106 (b), for every feedback constant whose highest bit is set. -/
theorem residue_eq_zero_iff {poly : Half} (hpoly : poly.getLsbD 15 = true) (s : Half) (data : List Byte) (t : Half) :
    crc16 poly s (data ++ [t.extractLsb' 0 8, t.extractLsb' 8 8]) = 0x0000#16 ↔ t = crc16 poly s data := by
  rw [crc16_append, crc16_trailer, crcShifts_eq_zero_iff hpoly, BitVec.xor_eq_zero_iff, eq_comm]

/-- Settles O7: (a) the rounds are linear, (b) they lose nothing, (c) by evaluation. -/
theorem crcAffineResidueAndCheckValue : Obligations.CrcAffineResidueAndCheckValue := by
  refine ⟨fun poly s x y h => ?_, residue_eq_zero_iff (by decide), by decide +kernel⟩
  rw [crc16_xor poly s s h, BitVec.xor_self]

/-! ### CRC_UPDATE and CRC_BYTES (R102, R90) -/

theorem exec_crcUpdate (s : State) (b : Byte) :
    exec (.crcUpdate b) s = .next { s with
      crcAcc := crc16Update s.cfg.crcPolyR s.crcAcc b
      result := 0#16 ++ crc16Update s.cfg.crcPolyR s.crcAcc b } := by
  rw [← zext16_eq_append]
  rfl

/-- The fold and its zero extension, from the number. -/
theorem crc16Update_eq_ofNat (poly acc : Half) (b : Byte) :
    crc16Update poly acc b = BitVec.ofNat 16 (foldNumber poly.toNat acc.toNat b.toNat) ∧
      (0#16 ++ crc16Update poly acc b : Word) = BitVec.ofNat 32 (foldNumber poly.toNat acc.toNat b.toNat) := by
  rw [← zext16_eq_append, ← toNat_crc16Update, zext16, BitVec.ofNat_toNat, BitVec.ofNat_toNat, BitVec.setWidth_eq]
  exact ⟨rfl, rfl⟩

theorem exec_crcUpdate_number (s : State) (b : Byte) :
    exec (.crcUpdate b) s = .next { s with
      crcAcc := BitVec.ofNat 16 (foldNumber s.cfg.crcPolyR.toNat s.crcAcc.toNat b.toNat)
      result := BitVec.ofNat 32 (foldNumber s.cfg.crcPolyR.toNat s.crcAcc.toNat b.toNat) } := by
  obtain ⟨hacc, hresult⟩ := crc16Update_eq_ofNat s.cfg.crcPolyR s.crcAcc b
  rw [← hacc, ← hresult, exec_crcUpdate]

/-- Settles O9: the fold is the one in numbers, and the row of CRC_UPDATE leaves only byte A free. -/
theorem crcUpdateFoldsByte : Obligations.CrcUpdateFoldsByte := by
  refine ⟨exec_crcUpdate_number, fun s b hdef => ?_,
    fun b => or_shiftLeft_eq_cmdWord_byte 0x02#8 b ▸ decode_cmdWord_crcUpdate b,
    reservedBitsFault_of_mem (r := opRows[1]) (List.getElem_mem _)⟩
  obtain ⟨_, hpoly, _⟩ := hdef
  rw [exec_crcUpdate_number, hpoly]
  rfl

/-- Folding on, byte by byte, from a state whose RESULT is its accumulator. -/
theorem runs_crcUpdates (bs : List Byte) {s : State} (h : s.result = 0#16 ++ s.crcAcc) :
    Runs (bs.map .crcUpdate) s { s with
      crcAcc := crc16 s.cfg.crcPolyR s.crcAcc bs
      result := 0#16 ++ crc16 s.cfg.crcPolyR s.crcAcc bs } := by
  induction bs generalizing s with
  | nil =>
    show s = { s with crcAcc := s.crcAcc, result := 0#16 ++ s.crcAcc }
    rw [← h]
  | cons b bs ih => exact ⟨_, exec_crcUpdate s b, ih (s := { s with crcAcc := _, result := _ }) rfl⟩

/-- Settles O11: CRC_INIT seeds the accumulator and RESULT, and the rest is the fold of the list. -/
theorem crcBytesComputesCrc : Obligations.CrcBytesComputesCrc :=
  fun bs s => ⟨_, ⟨_, exec_crcInit s, runs_crcUpdates bs rfl⟩, rfl, rfl⟩

end Sys2Proof.Proofs.Crc
end

section
/-! PROOFS. What one step of a poll operation can do (41_gpio_edge.md R125, 42_counter.md R156, 43_analog.md R180 to R183): said once,
for every step, and that it keeps the invariant. -/

namespace Sys2Proof.Proofs.Sequencer
open Sys2Proof.Machine

/-! ### One step that is neither END nor the acquire step -/

/-- A byte written or read within a transaction (R87). -/
def onWire : Micro → Bool
  | .wire _ | .write _ | .read _ => true
  | _ => false

theorem plain_of_onWire {m : Micro} (h : onWire m = true) : m.plain = true := by
  cases m with
  | wire b | write b | read dst => rfl
  | _ => cases h

/-- What follows a byte on the wire is written or read. -/
theorem wireByte_todo_onWire (b : Byte) (s : State) :
    ∃ ms, (wireByte b s).todo = ms ++ s.todo ∧ ms.all onWire = true := by
  unfold wireByte
  split
  · exact ⟨[.write 0x88#8, .write 0x00#8, .read .snap, .read .trailLo, .read .trailHi], rfl, rfl⟩
  · exact ⟨[.write (pageLo s.work.sel), .write (pageHi s.work.sel)] ++ List.replicate Config.cntSkip (.read .discard) ++
      [.read (.cnt 0), .read (.cnt 1), .read (.cnt 2), .read (.cnt 3)], rfl, rfl⟩
  · exact ⟨[.write 0x00#8, .wire (phaseConfig s.cfg s.work.phase)], rfl, rfl⟩
  · exact ⟨[], rfl, rfl⟩
  · exact ⟨[], rfl, rfl⟩
  · exact ⟨[.write 0x00#8], rfl, rfl⟩
  · exact ⟨.write 0x00#8 :: (List.finRange 9).map fun k => .read (.sp k), rfl, rfl⟩
  · exact ⟨[], rfl, rfl⟩

/-- What no step of a poll operation changes, and that it only adds to the history. -/
structure Kept (s t : State) : Prop where
  cfg : t.cfg = s.cfg := by rfl
  result : t.result = s.result := by rfl
  hostQ : t.hostQ = s.hostQ := by rfl
  hostReplies : t.hostReplies = s.hostReplies := by rfl
  sched : t.sched = s.sched := by rfl
  events : ∃ es, t.events = s.events ++ es := by exact ⟨[], (List.append_nil _).symm⟩

/-- A step by which the poll operation does not end. -/
structure Continued (m : Micro) (s t : State) : Prop extends Kept s t where
  busy : t.busy = s.busy := by rfl
  lock : t.lock = s.lock := by rfl
  fault : t.fault = s.fault := by rfl
  seq : t.seq = s.seq ∨ ∃ p, t.seq = .running p := by exact .inl rfl
  outcome : t.outcome = s.outcome ∨ ∃ c : OutcomeCode, t.outcome = c.code := by exact .inl rfl
  crcOk : t.crcOk = s.crcOk ∨ m = .validate := by exact .inl rfl
  retained : t.retained = s.retained ∨ m = .retain := by exact .inl rfl
  todo : (∃ ms, t.todo = ms ++ s.todo ∧ ms.all onWire = true) ∨ ∃ f, t.todo = failProgram f := by
    exact .inl ⟨[], rfl, rfl⟩

theorem continued_initialReset (f : Failure) (s : State) : Continued (.initialReset f) s (initialReset f s) := by
  cases h : s.resetAnswer 0 with
  | false => rw [initialReset_of_absent f s h]; exact { events := ⟨_, rfl⟩, todo := .inr ⟨f, rfl⟩ }
  | true => rw [initialReset_of_present f s h]; exact { events := ⟨_, rfl⟩ }

theorem continued_wireByte (b : Byte) (s : State) : Continued (.wire b) s (wireByte b s) := by
  rw [wireByte_frame]
  exact { events := ⟨_, rfl⟩, todo := .inl (wireByte_todo_onWire b s) }

theorem continued_read (dst : ReadDst) (s : State) :
    Continued (.read dst) s (s.busRead.store (s.readAnswer 0) dst) := by
  obtain ⟨w, c, p, hstore⟩ := store_frame s.busRead (s.readAnswer 0) dst
  rw [hstore]
  exact { events := ⟨_, rfl⟩ }

theorem continued_validate (s : State) : Continued .validate s (validate s) := by
  by_cases hmatch : Claims.gpioCheck s.cfg s.work.snap ^^^ s.cfg.crcOutXor = s.work.trailHi ++ s.work.trailLo
  · rw [Gpio.validate_of_match hmatch]
    exact { crcOk := .inr rfl }
  · rw [Gpio.validate_of_mismatch hmatch]
    exact { crcOk := .inr rfl, todo := .inr ⟨.gpioChecksum, rfl⟩ }

/-- A step that is neither END nor the acquire step lets the poll operation go on, or it is a publish of an unwritten latch byte
(notes/assumptions/11.md). -/
theorem runMicro_plain_cases (m : Micro) (s : State) (h : m.plain = true) :
    Continued m s (runMicro m s) ∨ runMicro m s = (s.raiseFault .latchUnwritten).finish := by
  cases m with
  | acquire | finish => cases h
  | enter p => exact .inl { seq := .inr ⟨p, rfl⟩ }
  | setPhase ph => exact .inl {}
  | initialReset f => exact .inl (continued_initialReset f s)
  | wire b => exact .inl (continued_wireByte b s)
  | read dst => exact .inl (continued_read dst s)
  | validate => exact .inl (continued_validate s)
  | reset | select d | write b | wait t | publishEdge i | publishUnavailable i => exact .inl { events := ⟨_, rfl⟩ }
  | retain => exact .inl { retained := .inr rfl }
  | outcome c => exact .inl { outcome := .inr ⟨c, rfl⟩ }
  | publishCounter =>
    rw [runMicro, publishCounter]
    split
    · exact .inl { events := ⟨_, rfl⟩ }
    · exact .inr rfl
  | publishReading ch =>
    rw [runMicro, publishReading]
    split
    · exact .inl { events := ⟨_, rfl⟩ }
    · exact .inr rfl

/-! ### Any step -/

/-- The acquire step: another user's lock is waited for, any other one is taken (R66). -/
theorem runMicro_acquire (s : State) :
    runMicro .acquire s = if s.lock = .other then s.push [.acquire] else { s with lock := .mine } := rfl

theorem plain_or (m : Micro) : m.plain = true ∨ m = .acquire ∨ m = .finish := by
  cases m <;> simp [Micro.plain]

theorem kept_runMicro (m : Micro) (s : State) : Kept s (runMicro m s) := by
  rcases plain_or m with h | rfl | rfl
  · rcases runMicro_plain_cases m s h with hc | hend
    · exact hc.toKept
    · rw [hend]; exact {}
  · rw [runMicro_acquire]
    split <;> exact {}
  · exact {}

theorem Kept.trans {s t u : State} (h : Kept s t) (h' : Kept t u) : Kept s u := by
  obtain ⟨es, hes⟩ := h.events
  obtain ⟨es', hes'⟩ := h'.events
  exact ⟨h'.cfg.trans h.cfg, h'.result.trans h.result, h'.hostQ.trans h.hostQ, h'.hostReplies.trans h.hostReplies,
    h'.sched.trans h.sched, es ++ es', by rw [hes', hes, List.append_assoc]⟩

theorem kept_microStep (s : State) : Kept s (microStep s) := by
  cases h : s.todo with
  | nil => rw [microStep_nil s h]; exact {}
  | cons m rest =>
    rw [microStep_cons s m rest h]
    exact Kept.trans {} (kept_runMicro m (s.goto rest))

theorem kept_microSteps (n : Nat) (s : State) : Kept s (microSteps n s) := by
  induction n generalizing s with
  | zero => exact {}
  | succ n ih => exact (kept_microStep s).trans (ih _)

/-- A step that does not end the poll operation leaves BUSY. -/
theorem microStep_busy_or_ended (s : State) : (microStep s).busy = s.busy ∨ (microStep s).todo = [] := by
  cases h : s.todo with
  | nil => exact .inl (congrArg State.busy (microStep_nil s h))
  | cons m rest =>
    rw [microStep_cons s m rest h]
    rcases plain_or m with hm | rfl | rfl
    · rcases runMicro_plain_cases m (s.goto rest) hm with hc | hend
      · exact .inl hc.busy
      · exact .inr (congrArg State.todo hend)
    · rw [runMicro_acquire]
      split <;> exact .inl rfl
    · exact .inr rfl

/-! ### The invariant -/

theorem idle_finish (s : State) : s.finish.Idle := ⟨rfl, rfl, nofun, rfl, rfl⟩

/-- A poll operation that has ended is in the invariant, if OUTCOME and FAULT are. -/
theorem inv_finish {s : State} (houtcome : s.outcome.toNat ≤ 4) (hfault : s.fault.toNat ≤ 3)
    (hconfig : s.cfg.wf = false → s.fault ≠ 0#8) : s.finish.Inv :=
  ⟨.inl (idle_finish s), houtcome, hfault, hconfig⟩

/-- A step of a poll operation that holds the lock. -/
theorem inv_of_continued {m : Micro} {rest : List Micro} {s t : State} (hinv : s.Inv) (hrun : s.Running)
    (hmine : s.lock = .mine) (hrest : script rest = true) (h : Continued m (s.goto rest) t) : t.Inv := by
  have hfault : t.fault = 0#8 := h.fault.trans hrun.fault
  have hscript : script t.todo = true := by
    rcases h.todo with ⟨ms, htodo, hwire⟩ | ⟨f, htodo⟩
    · have hplain : ms.all Micro.plain = true :=
        List.all_eq_true.mpr fun m hm => plain_of_onWire (List.all_eq_true.mp hwire m hm)
      rw [htodo, script_append_plain ms _ hplain]
      exact hrest
    · rw [htodo, script_failProgram]
  refine ⟨.inr ⟨h.busy.trans hrun.busy, ?_, hfault, .inl ⟨h.lock.trans hmine, hscript⟩⟩, ?_, ?_, ?_⟩
  · rcases h.seq with hseq | ⟨p, hseq⟩
    · exact hseq ▸ hrun.seq
    · rw [hseq]; nofun
  · rcases h.outcome with houtcome | ⟨c, houtcome⟩
    · exact houtcome ▸ hinv.outcome
    · exact houtcome ▸ outcomeCode_le c
  · exact h.fault ▸ hinv.fault
  · rw [h.fault, h.cfg]
    exact hinv.config

/-- The invariant only speaks of the configuration, OUTCOME, FAULT, BUSY and the fields of the sequencer. -/
theorem Inv.congr {s t : State} (h : s.Inv) (hcfg : t.cfg = s.cfg := by rfl) (houtcome : t.outcome = s.outcome := by rfl)
    (hfault : t.fault = s.fault := by rfl) (hbusy : t.busy = s.busy := by rfl) (hseq : t.seq = s.seq := by rfl)
    (hlock : t.lock = s.lock := by rfl) (htodo : t.todo = s.todo := by rfl) (hwork : t.work = s.work := by rfl) : t.Inv where
  sequencer := by
    rcases h.sequencer with hidle | hrun
    · exact .inl ⟨hbusy.trans hidle.busy, hseq.trans hidle.seq, hlock ▸ hidle.lock, htodo.trans hidle.todo,
        hwork.trans hidle.work⟩
    · exact .inr ⟨hbusy.trans hrun.busy, hseq ▸ hrun.seq, hfault.trans hrun.fault, hlock ▸ htodo ▸ hrun.todo⟩
  outcome := houtcome ▸ h.outcome
  fault := hfault ▸ h.fault
  config := hfault ▸ hcfg ▸ h.config

/-- The acquire step of a poll operation that waits for the lock. -/
theorem inv_acquire {s : State} {rest : List Micro} (hinv : s.Inv) (hrun : s.Running) (htodo : s.todo = .acquire :: rest)
    (hrest : script rest = true) : (microStep s).Inv := by
  by_cases hother : s.lock = .other
  · rw [microStep_waiting s rest htodo hother]
    exact hinv
  · rw [microStep_cons s _ _ htodo, runMicro_acquire, if_neg (show (s.goto rest).lock ≠ .other from hother)]
    exact ⟨.inr ⟨hrun.busy, hrun.seq, hrun.fault, .inl ⟨rfl, hrest⟩⟩, hinv.outcome, hinv.fault, hinv.config⟩

theorem inv_microStep {s : State} (hinv : s.Inv) : (microStep s).Inv := by
  rcases hinv.sequencer with hidle | hrun
  · rw [microStep_nil s hidle.todo]
    exact hinv
  · rcases hrun.todo with ⟨hmine, hscript⟩ | ⟨_, hwait⟩
    · cases htodo : s.todo with
      | nil => rw [htodo] at hscript; cases hscript
      | cons m rest =>
        rw [htodo] at hscript
        rw [microStep_cons s m rest htodo]
        rcases script_cons_cases m rest hscript with ⟨rfl, rfl⟩ | ⟨hplain, hrest⟩
        · exact inv_finish (s := s.goto []) hinv.outcome hinv.fault hinv.config
        · rcases runMicro_plain_cases m (s.goto rest) hplain with hc | hend
          · exact inv_of_continued hinv hrun hmine hrest hc
          · rw [hend]
            exact inv_finish hinv.outcome (faultCode_le _) fun _ => faultCode_ne_zero .latchUnwritten
    · cases htodo : s.todo with
      | nil => rw [htodo] at hwait; cases hwait
      | cons m rest =>
        rw [htodo] at hwait
        cases m with
        | acquire => exact inv_acquire hinv hrun htodo hwait
        | _ => cases hwait

theorem inv_microSteps {s : State} (n : Nat) (hinv : s.Inv) : (microSteps n s).Inv :=
  microSteps_invariant State.Inv (fun _ => inv_microStep) n s hinv

end Sys2Proof.Proofs.Sequencer
end

section
/-! PROOFS. What one step of the machine can do (20_memory.md R60 to R68, 60_exceptions.md R205 to R208): the operations that
complete in their step, the poll operations, and the turns of the agents. From that, O48 and O52 to O55. -/

namespace Sys2Proof.Proofs.Step
open Sys2Proof.Machine Sys2Proof.Claims Sys2Proof.Proofs.Encoding Sys2Proof.Proofs.Sequencer

/-! ### The operations that complete in the step that accepts them (R30) -/

/-- What such an operation leaves unchanged, and what it may write: CRC_OK and RETAINED only where R103 and R123 say so, FAULT
only with a code, and publishes at the end of the history. -/
structure Completed (i : Instr) (s t : State) : Prop where
  cfg : t.cfg = s.cfg := by rfl
  outcome : t.outcome = s.outcome := by rfl
  busy : t.busy = s.busy := by rfl
  seq : t.seq = s.seq := by rfl
  lock : t.lock = s.lock := by rfl
  todo : t.todo = s.todo := by rfl
  work : t.work = s.work := by rfl
  fault : t.fault = s.fault ∨ ∃ c : FaultCode, t.fault = c.code := by exact .inl rfl
  crcOk : t.crcOk = s.crcOk ∨ ∃ tr, i = .crcCheck tr := by exact .inl rfl
  retained : t.retained = s.retained ∨ ∃ v, i = .edgeDetect v := by exact .inl rfl
  events : ∃ es, t.events = s.events ++ es ∧ ∀ e ∈ es, e.isTransport = false := by
    exact ⟨[], (List.append_nil _).symm, nofun⟩

/-- A channel's publish of a change is of its active state (R123, R129). -/
theorem eq_of_mem_edgeEvent {s m : Byte} {i : Fin 8} {e : Event} (h : e ∈ edgeEvent s m i) :
    e = .publish (.gpio i) (.bool (active s i)) := by
  rw [edgeEvent] at h
  split at h
  · exact List.mem_singleton.mp h
  · cases h

theorem eq_of_mem_unavailableEvent {bind : Byte} {i : Fin 8} {e : Event} (h : e ∈ unavailableEvent bind i) :
    e = .publish (.gpio i) .unavailable := by
  rw [unavailableEvent] at h
  split at h
  · exact List.mem_singleton.mp h
  · cases h

theorem isTransport_of_mem_edgeEvents {s m : Byte} : ∀ e ∈ edgeEvents s m, e.isTransport = false := by
  intro e he
  obtain ⟨i, -, hi⟩ := List.mem_flatMap.mp he
  rw [eq_of_mem_edgeEvent hi]
  rfl

theorem isTransport_of_mem_unavailableEvents {bind : Byte} : ∀ e ∈ unavailableEvents bind, e.isTransport = false := by
  intro e he
  obtain ⟨i, -, hi⟩ := List.mem_flatMap.mp he
  rw [eq_of_mem_unavailableEvent hi]
  rfl

theorem completed_readHalf {i : Instr} {ext : Half → Word} {lo hi : Fin 9} {s t : State}
    (h : Analog.readHalf ext lo hi s = .next t) : Completed i s t := by
  unfold Analog.readHalf at h
  split at h <;> cases h
  · exact {}
  · exact { fault := .inr ⟨.latchUnwritten, rfl⟩ }

theorem completed_cntAssemble {s t : State} (h : exec .cntAssemble s = .next t) : Completed .cntAssemble s t := by
  change execCntAssemble s = _ at h
  unfold execCntAssemble at h
  split at h <;> cases h
  · exact {}
  · exact { fault := .inr ⟨.latchUnwritten, rfl⟩ }

theorem completed_spLoad {k b : Byte} {s t : State} (h : exec (.spLoad k b) s = .next t) : Completed (.spLoad k b) s t := by
  change execSpLoad k b s = _ at h
  unfold execSpLoad at h
  split at h <;> cases h
  · exact {}
  · exact { fault := .inr ⟨.illegalEncoding, rfl⟩ }

/-- An operation word that is no poll operation. -/
theorem completed_of_exec {i : Instr} {w : Word} {s t : State} (hword : encode i = .cmd w) (hpoll : ¬ IsPoll i)
    (h : exec i s = .next t) : Completed i s t := by
  cases i with
  | gpioPoll => exact absurd (.inl rfl) hpoll
  | cntPoll sel => exact absurd (.inr (.inl ⟨sel, rfl⟩)) hpoll
  | adcPoll => exact absurd (.inr (.inr rfl)) hpoll
  | crcCheck t => cases h; exact { crcOk := .inr ⟨_, rfl⟩ }
  | edgeDetect v => cases h; exact { retained := .inr ⟨_, rfl⟩, events := ⟨_, rfl, isTransport_of_mem_edgeEvents⟩ }
  | gpioFail => cases h; exact { events := ⟨_, rfl, isTransport_of_mem_unavailableEvents⟩ }
  | crcInit | crcUpdate b | gpioDecode v | cntPage sel | cntLoad k b | cntClear | adcConfig vdd iad | spClear =>
    cases h; exact {}
  | cntAssemble => exact completed_cntAssemble h
  | spLoad k b => exact completed_spLoad h
  | adcTemp | adcVolt | adcCurr => exact completed_readHalf h
  | wireReadRegister | wireReadMemoryCounter | wireWriteScratchpad | wireConvertT | wireConvertV | wireRecallMemory
  | wireReadScratchpad | cfgVddIad0 | cfgVddIad1 | cfgVadIad0 | cfgVadIad1 => cases hword

/-! ### The poll operations -/

/-- Neither VALIDATE nor the line that writes RETAINED: the steps that only GPIO_POLL has (R128, R129). -/
def notGpioWrite (m : Micro) : Bool := m != .validate && m != .retain

/-- A poll operation is begun or skipped (R125, R156, R183), and as a whole it runs from where it is begun. Only GPIO_POLL has steps
that write CRC_OK and RETAINED. -/
theorem poll_cases {i : Instr} (hpoll : IsPoll i) (s : State) :
    (∃ p w prog, script prog = true ∧ (i ≠ .gpioPoll → prog.all notGpioWrite = true) ∧
      beginInstr i s = .next (s.beginPoll p w prog) ∧
      exec i s = .next (microSteps pollFuel (s.beginPoll p w prog))) ∨
    ∃ sel, i = .cntPoll sel ∧ counterBound s.cfg sel = false ∧ beginInstr i s = .next (s.setOutcome .skippedUnbound) ∧
      exec i s = .next (s.setOutcome .skippedUnbound) := by
  rcases hpoll with rfl | ⟨sel, rfl⟩ | rfl
  · exact .inl ⟨_, _, _, script_gpioProgram, fun h => absurd rfl h, rfl, rfl⟩
  · have hexec : exec (.cntPoll sel) s = if counterBound s.cfg sel then .next (microSteps pollFuel (beginCntPoll sel s))
        else .next (beginCntPoll sel s) := rfl
    have hbegin : beginInstr (.cntPoll sel) s = .next (beginCntPoll sel s) := rfl
    rw [hexec, hbegin, beginCntPoll]
    cases hbound : counterBound s.cfg sel with
    | false => exact .inr ⟨sel, rfl, hbound, rfl, rfl⟩
    | true => exact .inl ⟨_, _, _, script_cntProgram, fun _ => by decide, rfl, rfl⟩
  · refine .inl ⟨_, _, _, script_adcProgram s.cfg, fun _ => ?_, rfl, rfl⟩
    simp only [adcProgram, phase2Program, publishIf]
    cases s.cfg.bindTemp <;> cases s.cfg.bindVdd <;> cases s.cfg.bindCurr <;> cases s.cfg.bindVad <;> decide

theorem beginInstr_of_not_poll {i : Instr} (h : ¬ IsPoll i) (s : State) : beginInstr i s = exec i s :=
  beginInstr_eq i s (fun e => h (.inl e)) (fun sel e => h (.inr (.inl ⟨sel, e⟩))) (fun e => h (.inr (.inr e)))

/-! ### The moves -/

/-- What a step other than a reset can be, on the state whose turn has been taken off the schedule. An operation is issued only while
the block is neither faulted nor busy (R67, R206). -/
inductive Move (s : State) : State → Prop where
  | lockTake : Move s s.otherTake
  | lockRelease : Move s s.otherRelease
  | block : Move s (microStep s)
  /-- the host has no access to make, or its CMD write is not accepted -/
  | nothing : Move s s
  | answered (rest : List HostAccess) (r : Nat × Word) :
      Move s { s with hostQ := rest, hostReplies := s.hostReplies ++ [r] }
  | illegal (rest : List HostAccess) (hfault : s.fault = 0#8) (hbusy : s.busy = false) :
      Move s { s with hostQ := rest, fault := 0x01#8 }
  | completed (rest : List HostAccess) (i : Instr) (t : State) (hfault : s.fault = 0#8) (hbusy : s.busy = false)
      (h : Completed i { s with hostQ := rest } t) : Move s t
  | skipped (rest : List HostAccess) (hfault : s.fault = 0#8) (hbusy : s.busy = false) :
      Move s ({ s with hostQ := rest }.setOutcome .skippedUnbound)
  /-- a poll operation is begun, and taken `n` steps on -/
  | polled (rest : List HostAccess) (p : Position) (w : Work) (prog : List Micro) (n : Nat) (hfault : s.fault = 0#8)
      (hbusy : s.busy = false) (hprog : script prog = true) :
      Move s (microSteps n ({ s with hostQ := rest }.beginPoll p w prog))

theorem move_of_issue {x : Extent} {w : Word} {rest : List HostAccess} {s t : State} (hfault : s.fault = 0#8)
    (hbusy : s.busy = false) (h : issue x w { s with hostQ := rest } = .next t) : Move s t := by
  rcases issue_cases x w { s with hostQ := rest } with ⟨_, _, hill⟩ | ⟨i, hok, hrun⟩
  · cases hill.symm.trans h
    exact .illegal rest hfault hbusy
  · obtain ⟨hword, _⟩ := encode_of_decode _ _ hok
    by_cases hpoll : IsPoll i
    · rcases poll_cases hpoll { s with hostQ := rest } with
        ⟨p, wk, prog, hprog, _, hbegin, hexec⟩ | ⟨_, _, _, hbegin, hexec⟩
      · rcases hrun with ⟨_, hwhole⟩ | ⟨_, hbegun⟩
        · rw [← Host.Outcome.next.inj ((hwhole.trans hexec).symm.trans h)]
          exact .polled rest p wk prog pollFuel hfault hbusy hprog
        · cases (hbegun.trans hbegin).symm.trans h
          exact .polled rest p wk prog 0 hfault hbusy hprog
      · rcases hrun with ⟨_, hwhole⟩ | ⟨_, hbegun⟩
        · cases (hwhole.trans hexec).symm.trans h
          exact .skipped rest hfault hbusy
        · cases (hbegun.trans hbegin).symm.trans h
          exact .skipped rest hfault hbusy
    · have hexec : exec i { s with hostQ := rest } = .next t := by
        rcases hrun with ⟨_, hwhole⟩ | ⟨_, hbegun⟩
        · exact hwhole.symm.trans h
        · exact (beginInstr_of_not_poll hpoll _).symm.trans (hbegun.symm.trans h)
      exact .completed rest i t hfault hbusy (completed_of_exec hword hpoll hexec)

theorem move_of_answerRead {width offset : Nat} {rest : List HostAccess} {s t : State}
    (h : answerRead width offset { s with hostQ := rest } = .next t) : Move s t := by
  obtain ⟨v, _, rfl⟩ := answerRead_next width offset _ t h
  exact .answered rest (offset, v)

theorem move_of_hostTurn {s t : State} (h : hostTurn s = .next t) : Move s t := by
  unfold hostTurn at h
  split at h
  · cases h
    exact .nothing
  · exact move_of_answerRead h
  · split_ifs at h with _ hfault hbusy
    · cases h
      exact .nothing
    · cases h
      exact .nothing
    · exact move_of_issue (not_not.mp hfault) (Bool.eq_false_of_not_eq_true hbusy) h

theorem move_of_hostAlone {s t : State} (hbusy : s.busy = false) (h : hostAlone s = .next t) : Move s t := by
  unfold hostAlone at h
  split at h
  · cases h
    exact .nothing
  · exact move_of_answerRead h
  · split_ifs at h with _ hfault
    exact move_of_issue (not_not.mp hfault) hbusy h

theorem move_of_blockTurn {s t : State} (h : blockTurn s = .next t) : Move s t := by
  rw [blockTurn_eq] at h
  cases h
  exact .block

/-- The state with the turn it is on taken off the schedule. -/
def turnTaken (s : State) : State := { s with sched := s.sched.tail }

/-- A step is a reset or a move. -/
theorem step_cases {s t : State} (h : step s = .next t) :
    (s.sched.head? = some .reset ∧ t = (turnTaken s).resetBlock) ∨
      (s.sched.head? ≠ some .reset ∧ Move (turnTaken s) t) := by
  unfold step at h
  split at h
  · rename_i hsched
    have hs : turnTaken s = s := by
      rw [turnTaken, hsched, List.tail_nil, ← hsched]
    rw [hs, hsched]
    refine .inr ⟨nofun, ?_⟩
    unfold defaultTurn at h
    split_ifs at h with hbusy
    · exact move_of_blockTurn h
    · exact move_of_hostAlone (Bool.eq_false_of_not_eq_true hbusy) h
  · rename_i turn ts hsched
    rw [turnTaken, hsched, List.tail_cons, List.head?_cons]
    cases turn with
    | host => exact .inr ⟨nofun, move_of_hostTurn h⟩
    | block => exact .inr ⟨nofun, move_of_blockTurn h⟩
    | reset => cases h; exact .inl ⟨rfl, rfl⟩
    | lockTake => cases h; exact .inr ⟨nofun, .lockTake⟩
    | lockRelease => cases h; exact .inr ⟨nofun, .lockRelease⟩

end Sys2Proof.Proofs.Step
end

section
/-! PROOFS. What every step of the machine keeps: the invariant (O51, O52), a fault (O48), the configuration (O53), the history
(O54), and the silence of a block that does not hold the lock (O55). -/

namespace Sys2Proof.Proofs.Step
open Sys2Proof.Machine Sys2Proof.Claims Sys2Proof.Proofs.Sequencer

/-! ### The invariant -/

/-- R9 and R231: FAULT after reset is 0 exactly where the configuration is well formed. -/
theorem atReset_fault (c : Cfg) : (State.atReset c).fault = if c.wf then 0x00#8 else 0x03#8 := rfl

/-- The values of reset are in the invariant, with the lock in anyone else's hands. -/
theorem inv_of_reset {s : State} (hidle : s.Idle) (houtcome : s.outcome = 0#4)
    (hfault : s.fault = (State.atReset s.cfg).fault) : s.Inv := by
  rw [atReset_fault] at hfault
  refine ⟨.inl hidle, by rw [houtcome]; decide, ?_, fun hwf => ?_⟩
  · rw [hfault]
    split <;> decide
  · rw [hfault, hwf]
    decide

/-- Settles O51: after reset no poll operation is in progress, and FAULT is 0 or 3. -/
theorem invariantAfterReset : Obligations.InvariantAfterReset :=
  fun _ => inv_of_reset ⟨rfl, rfl, nofun, rfl, rfl⟩ rfl rfl

theorem inv_resetBlock (s : State) : s.resetBlock.Inv := by
  refine inv_of_reset ⟨rfl, rfl, ?_, rfl, rfl⟩ rfl rfl
  show (if s.lock = .other then Lock.other else .free) ≠ .mine
  split <;> nofun

/-- Another user's move on the lock leaves it to this block exactly where the block had it. -/
theorem otherTake_lock (s : State) : s.otherTake.lock = .mine ↔ s.lock = .mine := by
  cases h : s.lock <;> simp [State.otherTake, h]

theorem otherRelease_lock (s : State) : s.otherRelease.lock = .mine ↔ s.lock = .mine := by
  cases h : s.lock <;> simp [State.otherRelease, h]

/-- The invariant only asks whether this block holds the lock. -/
theorem inv_with_lock {s : State} {lk : Lock} (h : s.Inv) (hlk : lk = .mine ↔ s.lock = .mine) :
    { s with lock := lk }.Inv := by
  refine ⟨?_, h.outcome, h.fault, h.config⟩
  rcases h.sequencer with hidle | hrun
  · exact .inl ⟨hidle.busy, hidle.seq, mt hlk.mp hidle.lock, hidle.todo, hidle.work⟩
  · exact .inr ⟨hrun.busy, hrun.seq, hrun.fault,
      hrun.todo.imp (And.imp_left hlk.mpr) (And.imp_left (mt hlk.mp))⟩

/-- A block in the invariant that is not busy is idle. -/
theorem idle_of_not_busy {s : State} (h : s.Inv) (hbusy : s.busy = false) : s.Idle :=
  h.sequencer.resolve_right fun hrun => nomatch hbusy.symm.trans hrun.busy

/-- So is one that is faulted (R206). -/
theorem idle_of_fault {s : State} (h : s.Inv) (hfault : s.fault ≠ 0#8) : s.Idle :=
  h.sequencer.resolve_right fun hrun => hfault hrun.fault

theorem inv_setOutcome {s : State} (h : s.Inv) (c : OutcomeCode) : (s.setOutcome c).Inv := by
  refine ⟨?_, outcomeCode_le c, h.fault, h.config⟩
  rcases h.sequencer with hidle | hrun
  · exact .inl ⟨hidle.busy, hidle.seq, hidle.lock, hidle.todo, hidle.work⟩
  · exact .inr ⟨hrun.busy, hrun.seq, hrun.fault, hrun.todo⟩

/-- An idle block may take a fault (R205). -/
theorem inv_with_fault {s : State} (h : s.Inv) (hidle : s.Idle) (c : FaultCode) : { s with fault := c.code }.Inv :=
  ⟨.inl ⟨hidle.busy, hidle.seq, hidle.lock, hidle.todo, hidle.work⟩, h.outcome, faultCode_le c,
    fun _ => faultCode_ne_zero c⟩

/-- A poll operation is accepted by an idle block without a fault and waits for the lock first (R66). -/
theorem inv_beginPoll {s : State} (h : s.Inv) (hidle : s.Idle) (hfault : s.fault = 0#8) (p : Position) (w : Work)
    {prog : List Micro} (hprog : script prog = true) : (s.beginPoll p w prog).Inv :=
  ⟨.inr ⟨rfl, nofun, hfault, .inr ⟨hidle.lock, hprog⟩⟩, h.outcome, h.fault, h.config⟩

theorem inv_completed {i : Instr} {s t : State} (h : s.Inv) (hidle : s.Idle) (hcomp : Completed i s t) : t.Inv := by
  rcases hcomp.fault with hfault | ⟨c, hfault⟩
  · exact Inv.congr h hcomp.cfg hcomp.outcome hfault hcomp.busy hcomp.seq hcomp.lock hcomp.todo hcomp.work
  · exact Inv.congr (inv_with_fault h hidle c) hcomp.cfg hcomp.outcome hfault hcomp.busy hcomp.seq hcomp.lock hcomp.todo
      hcomp.work

theorem inv_move {s t : State} (h : s.Inv) (hmove : Move s t) : t.Inv := by
  cases hmove with
  | lockTake => exact inv_with_lock h (otherTake_lock s)
  | lockRelease => exact inv_with_lock h (otherRelease_lock s)
  | block => exact inv_microStep h
  | nothing => exact h
  | answered rest r => exact Inv.congr h
  | illegal rest hfault hbusy => exact Inv.congr (inv_with_fault h (idle_of_not_busy h hbusy) .illegalEncoding)
  | completed rest i _ hfault hbusy hcomp =>
    have hq : { s with hostQ := rest }.Inv := Inv.congr h
    exact inv_completed hq (idle_of_not_busy hq hbusy) hcomp
  | skipped rest hfault hbusy => exact inv_setOutcome (Inv.congr h) _
  | polled rest p w prog n hfault hbusy hprog =>
    have hq : { s with hostQ := rest }.Inv := Inv.congr h
    exact inv_microSteps n (inv_beginPoll hq (idle_of_not_busy hq hbusy) hfault p w hprog)

theorem inv_turnTaken {s : State} (h : s.Inv) : (turnTaken s).Inv := Inv.congr h

/-- Settles O52: a step is a reset or a move, and each kind of move keeps the invariant. -/
theorem invariantKeptByStep : Obligations.InvariantKeptByStep := by
  intro s t h hstep
  rcases step_cases hstep with ⟨_, rfl⟩ | ⟨_, hmove⟩
  · exact inv_resetBlock _
  · exact inv_move (inv_turnTaken h) hmove

/-! ### Faults (R206) -/

/-- Settles O48: a faulted block is idle, so a turn of its own does nothing, and no operation is issued. -/
theorem faultIsStickyUntilReset : Obligations.FaultIsStickyUntilReset := by
  intro s t h hfault hstep hreset
  rcases step_cases hstep with ⟨hreset', _⟩ | ⟨_, hmove⟩
  · exact absurd hreset' hreset
  · cases hmove with
    | lockTake | lockRelease | nothing | answered => exact ⟨_, _, _, _, rfl⟩
    | block =>
      rw [microStep_nil (turnTaken s) (idle_of_fault h hfault).todo]
      exact ⟨_, _, _, _, rfl⟩
    | illegal _ hzero | completed _ _ _ hzero | skipped _ hzero | polled _ _ _ _ _ hzero => exact absurd hzero hfault

/-! ### The configuration and the history -/

theorem move_cfg {s t : State} (h : Move s t) : t.cfg = s.cfg := by
  cases h with
  | lockTake | lockRelease | nothing | answered | illegal | skipped => rfl
  | block => exact (kept_microStep s).cfg
  | completed _ _ _ _ _ hcomp => exact hcomp.cfg
  | polled _ _ _ _ n => exact (kept_microSteps n _).cfg

/-- Settles O53: no move writes the configuration, and a reset takes the values for the one there is. -/
theorem configurationNeverChanges : Obligations.ConfigurationNeverChanges := by
  intro s t hstep
  rcases step_cases hstep with ⟨_, rfl⟩ | ⟨_, hmove⟩
  · rfl
  · exact move_cfg (s := turnTaken s) hmove

theorem move_events {s t : State} (h : Move s t) : ∃ es, t.events = s.events ++ es := by
  cases h with
  | lockTake | lockRelease | nothing | answered | illegal | skipped => exact ⟨[], (List.append_nil _).symm⟩
  | block => exact (kept_microStep s).events
  | completed _ _ _ _ _ hcomp => exact hcomp.events.imp fun _ => And.left
  | polled _ _ _ _ n => exact (kept_microSteps n _).events

/-- Settles O54: a reset starts the history anew, and every other step is a move, which adds to it. -/
theorem eventHistoryOnlyGrows : Obligations.EventHistoryOnlyGrows := by
  intro s t hstep
  rcases step_cases hstep with ⟨hreset, rfl⟩ | ⟨hreset, hmove⟩
  · rw [if_pos hreset]
    rfl
  · rw [if_neg hreset]
    exact move_events (s := turnTaken s) hmove

/-! ### The lock (R66) -/

/-- While another user holds the lock, the block's own turn does nothing: it is idle, or it waits. -/
theorem microStep_of_locked {s : State} (h : s.Inv) (hlock : s.lock = .other) : microStep s = s := by
  rcases h.sequencer with hidle | hrun
  · exact microStep_nil s hidle.todo
  · rcases hrun.todo with ⟨hmine, _⟩ | ⟨_, hwait⟩
    · cases hlock.symm.trans hmine
    · obtain ⟨rest, htodo⟩ : ∃ rest, s.todo = .acquire :: rest := by
        unfold waitingScript at hwait
        split at hwait
        · exact ⟨_, ‹_›⟩
        · cases hwait
      exact microStep_waiting s rest htodo hlock

/-- A poll operation that is begun meanwhile stays where it begins. -/
theorem microSteps_beginPoll_of_locked {s : State} (n : Nat) (p : Position) (w : Work) (prog : List Micro)
    (hlock : s.lock = .other) : microSteps n (s.beginPoll p w prog) = s.beginPoll p w prog :=
  microSteps_waiting n _ prog rfl hlock

theorem move_events_of_locked {s t : State} (h : s.Inv) (hlock : s.lock = .other) (hmove : Move s t) :
    ∃ es, t.events = s.events ++ es ∧ ∀ e ∈ es, e.isTransport = false := by
  cases hmove with
  | lockTake | lockRelease | nothing | answered | illegal | skipped => exact ⟨[], (List.append_nil _).symm, nofun⟩
  | block =>
    rw [microStep_of_locked h hlock]
    exact ⟨[], (List.append_nil _).symm, nofun⟩
  | completed _ _ _ _ _ hcomp => exact hcomp.events
  | polled rest p w prog n =>
    rw [microSteps_beginPoll_of_locked (s := { s with hostQ := rest }) n p w prog hlock]
    exact ⟨[], (List.append_nil _).symm, nofun⟩

/-- Settles O55: no move of a block that does not get the lock makes a transport call. -/
theorem noTransportCallWithoutLock : Obligations.NoTransportCallWithoutLock := by
  intro s t h hlock hstep hreset
  rcases step_cases hstep with ⟨hreset', _⟩ | ⟨_, hmove⟩
  · exact absurd hreset' hreset
  · exact move_events_of_locked (s := turnTaken s) (inv_turnTaken h) hlock hmove

end Sys2Proof.Proofs.Step
end

section
/-! PROOFS. The host and the sequencer's bytes: reset (O49, O50), the STATUS word (O46), the host's accesses (O43, O45, O47) and the
bytes on the wire (O41, O42, O44). -/

namespace Sys2Proof.Proofs.Step
open Sys2Proof.Machine Sys2Proof.Claims

/-! ### Reset (R230 to R232) -/

theorem wf_iff (c : Cfg) : c.wf = true ↔ 0 < c.shunt ∧ c.cntValidate = false := by
  simp [Cfg.wf]

theorem resetFault_eq (c : Cfg) :
    (State.atReset c).fault = if 0 < c.shunt ∧ c.cntValidate = false then 0x00#8 else 0x03#8 := by
  simp only [atReset_fault, wf_iff]

theorem resetValues_atReset (c : Cfg) : ResetValues c (State.atReset c) :=
  ⟨rfl, id, rfl, rfl, fun _ => Vector.getElem_replicate _, fun _ => Vector.getElem_replicate _, rfl, rfl, rfl,
    resetFault_eq c, rfl, rfl, nofun, rfl⟩

theorem resetBlock_lock (s : State) : s.resetBlock.lock ≠ .mine := by
  show (if s.lock = .other then Lock.other else .free) ≠ .mine
  split <;> nofun

/-- A reset of the block gives the same values as a reset of its configuration, whoever holds the lock. -/
theorem resetValues_resetBlock (s : State) : ResetValues s.cfg s.resetBlock := by
  obtain ⟨hacc, hseed, hok, hret, hcnt, hsp, hres, hpres, hout, hfault, hbusy, hseq, _, hsink⟩ :=
    resetValues_atReset s.cfg
  exact ⟨hacc, hseed, hok, hret, hcnt, hsp, hres, hpres, hout, hfault, hbusy, hseq, resetBlock_lock s, hsink⟩

/-- Settles O50: R230's values for every configuration, so for that of `State.reset`. -/
theorem resetStateValues : Obligations.ResetStateValues :=
  ⟨fun c => ⟨resetValues_atReset c, rfl⟩, resetValues_atReset Cfg.cfg0⟩

theorem step_of_sched {s : State} {turn : Turn} {ts : List Turn} (h : s.sched = turn :: ts) :
    step s = takeTurn turn { s with sched := ts } := by
  rw [step, h]

/-- Settles O49: the turn of a reset is `resetBlock`. -/
theorem resetAtAnyTime : Obligations.ResetAtAnyTime :=
  fun s ts h => ⟨_, step_of_sched h, resetValues_resetBlock { s with sched := ts }, rfl, rfl, rfl, rfl⟩

/-! ### STATUS (R31) -/

/-- STATUS with its fields from the highest down. -/
theorem statusWord_eq (s : State) :
    statusWord s = 0#16 ++ (s.fault ++ (s.outcome ++ (0#1 ++ (BitVec.ofBool s.busy ++ (BitVec.ofBool s.present ++
      BitVec.ofBool s.crcOk))))) := by
  apply BitVec.eq_of_toNat_eq
  simp only [statusWord, BitVec.toNat_append, Nat.shiftLeft_or_distrib, ← Nat.shiftLeft_add, Nat.or_assoc]

theorem statusWord_flags (s : State) :
    (statusWord s).getLsbD 0 = s.crcOk ∧ (statusWord s).getLsbD 1 = s.present ∧ (statusWord s).getLsbD 2 = s.busy ∧
      (statusWord s).getLsbD 3 = false := by
  simp only [statusWord, BitVec.getLsbD_append]
  simp

theorem statusWord_outcome (s : State) : (statusWord s).extractLsb' 4 4 = s.outcome := by
  refine BitVec.eq_of_getLsbD_eq fun i hi => ?_
  rw [BitVec.getLsbD_extractLsb', Nat.add_comm 4 i]
  simp only [statusWord, BitVec.getLsbD_append]
  simp [hi]

theorem statusWord_fault (s : State) : (statusWord s).extractLsb' 8 8 = s.fault := by
  refine BitVec.eq_of_getLsbD_eq fun i hi => ?_
  rw [BitVec.getLsbD_extractLsb', Nat.add_comm 8 i]
  simp only [statusWord, BitVec.getLsbD_append]
  simp [hi]

theorem statusWord_reserved (s : State) : (statusWord s).extractLsb' 16 16 = 0#16 := by
  refine BitVec.eq_of_getLsbD_eq fun i hi => ?_
  rw [BitVec.getLsbD_extractLsb', Nat.add_comm 16 i]
  simp only [statusWord, BitVec.getLsbD_append]
  simp [hi]

/-- Settles O46, field by field. -/
theorem statusWordLayout : Obligations.StatusWordLayout := by
  intro s
  obtain ⟨hok, hpresent, hbusy, hzero⟩ := statusWord_flags s
  exact ⟨hok, hpresent, hbusy, hzero, statusWord_outcome s, statusWord_fault s, statusWord_reserved s⟩

/-! ### The host's accesses (R60 to R62, R67, R206) -/

theorem step_of_alone {s : State} (hsched : s.sched = []) (hbusy : s.busy = false) : step s = hostAlone s := by
  rw [step, hsched]
  exact if_neg (by rw [hbusy]; nofun)

theorem step_of_running {s : State} (hsched : s.sched = []) (hbusy : s.busy = true) : step s = blockTurn s := by
  rw [step, hsched]
  exact if_pos hbusy

/-- The host's turn on a CMD write, by the schedule (R67, R206, R208). -/
theorem hostTurn_cmdWrite {s : State} {w : Word} {rest : List HostAccess} (h : s.hostQ = .write 32 0x10 w :: rest) :
    hostTurn s = if s.fault ≠ 0#8 then .next s else if s.busy then .next s else issue .begun w { s with hostQ := rest } := by
  rw [hostTurn, h]
  rfl

/-- And where nobody else is to move. -/
theorem hostAlone_cmdWrite {s : State} {w : Word} {rest : List HostAccess} (h : s.hostQ = .write 32 0x10 w :: rest) :
    hostAlone s = if s.fault ≠ 0#8 then .fault .hostStuck else issue .whole w { s with hostQ := rest } := by
  rw [hostAlone, h]
  rfl

/-- Settles O43: the host is alone, and its CMD write is accepted and decoded. -/
theorem stepRunsAcceptedOperation : Obligations.StepRunsAcceptedOperation := by
  intro s w i hsched hbusy hfault hok
  have halone := step_of_alone (s := { s with hostQ := .write 32 0x10 w :: s.hostQ }) hsched hbusy
  rw [halone, hostAlone_cmdWrite rfl, if_neg (not_not.mpr hfault), issue, hok]

/-- Settles O47: FAULT is looked at first, then BUSY (R208). -/
theorem cmdWriteHeldUntilAccepted : Obligations.CmdWriteHeldUntilAccepted := by
  intro s w ts rest hq
  have hturn (hsched : s.sched = .host :: ts) :=
    (step_of_sched hsched).trans (hostTurn_cmdWrite (s := { s with sched := ts }) hq)
  refine ⟨fun hsched hheld => ?_, fun hsched hfault hbusy => ?_, fun hsched hfault hbusy => ?_⟩
  · rw [hturn hsched]
    rcases hheld with hfault | hbusy
    · exact if_pos hfault
    · rw [hbusy, if_pos rfl, ite_self]
  · rw [hturn hsched, hbusy, if_neg (not_not.mpr hfault)]
    rfl
  · rw [step_of_alone hsched hbusy, hostAlone_cmdWrite hq, if_pos hfault]

/-- The readable registers are those of the host map (R60). -/
theorem hostRead_of_mem_readable {s : State} {r : Nat × Word} (h : r ∈ readable s) : hostRead s 32 r.1 = some r.2 := by
  simp only [readable, List.mem_cons, List.not_mem_nil, or_false] at h
  rcases h with rfl | rfl | rfl | rfl
  · exact congrArg some (statusWord_eq s)
  · rfl
  · exact congrArg some (Crc.zext16_eq_append s.crcAcc)
  · exact congrArg some (BitVec.setWidth_eq_append (by decide))

/-- There are no others (R61). -/
theorem hostRead_of_not_accepted {s : State} {width offset : Nat} (h : ¬ Accepted (.read width offset)) :
    hostRead s width offset = none := by
  simp only [Accepted, not_and, not_or] at h
  unfold hostRead
  split_ifs with hwidth h0 h4 h8 hC
  · exact absurd h0 (h hwidth).1
  · exact absurd h4 (h hwidth).2.1
  · exact absurd h8 (h hwidth).2.2.1
  · exact absurd hC (h hwidth).2.2.2
  · rfl
  · rfl

theorem isCmdWrite_of_not_accepted {width offset : Nat} {v : Word} (h : ¬ Accepted (.write width offset v)) :
    isCmdWrite width offset = false := by
  refine Bool.eq_false_of_not_eq_true fun hcmd => h ?_
  rw [isCmdWrite, Bool.and_eq_true, beq_iff_eq, beq_iff_eq] at hcmd
  exact hcmd

theorem answerRead_of_readable {s : State} {r : Nat × Word} (rest : List HostAccess) (h : r ∈ readable s) :
    answerRead 32 r.1 { s with hostQ := rest } =
      .next { s with hostQ := rest, hostReplies := s.hostReplies ++ [r] } := by
  have hread : hostRead { s with hostQ := rest } 32 r.1 = some r.2 := hostRead_of_mem_readable h
  rw [answerRead, hread]

/-- A host read is answered alike on the host's turn and where the host is alone. -/
theorem host_read {s : State} {r : Nat × Word} {rest : List HostAccess} (hr : r ∈ readable s)
    (hq : s.hostQ = .read 32 r.1 :: rest) :
    hostTurn s = .next { s with hostQ := rest, hostReplies := s.hostReplies ++ [r] } ∧
      hostAlone s = .next { s with hostQ := rest, hostReplies := s.hostReplies ++ [r] } := by
  rw [hostTurn, hostAlone, hq]
  exact ⟨answerRead_of_readable rest hr, answerRead_of_readable rest hr⟩

/-- So is an access that does not exist refused. -/
theorem host_refused {s : State} {a : HostAccess} {rest : List HostAccess} (hq : s.hostQ = a :: rest) (ha : ¬ Accepted a) :
    hostTurn s = .refused (.hostAccess a) ∧ hostAlone s = .refused (.hostAccess a) := by
  rw [hostTurn, hostAlone, hq]
  cases a with
  | read width offset =>
    have hread : answerRead width offset { s with hostQ := rest } = .refused (.hostAccess (.read width offset)) := by
      rw [answerRead, hostRead_of_not_accepted ha]
    exact ⟨hread, hread⟩
  | write width offset v =>
    have hcmd := isCmdWrite_of_not_accepted ha
    exact ⟨if_neg (by rw [hcmd]; nofun), if_neg (by rw [hcmd]; nofun)⟩

/-- Settles O45: the host map has the four readable registers and the CMD write, and nothing else. -/
theorem hostAccessesAnsweredOrRefused : Obligations.HostAccessesAnsweredOrRefused := by
  refine fun s ts rest => ⟨fun r hr hq => ⟨fun hsched => ?_, fun hsched hbusy => ?_⟩,
    fun a hq ha => ⟨fun hsched => ?_, fun hsched hbusy => ?_⟩⟩
  · exact (step_of_sched hsched).trans (host_read (s := { s with sched := ts }) hr hq).1
  · exact (step_of_alone hsched hbusy).trans (host_read hr hq).2
  · exact (step_of_sched hsched).trans (host_refused (s := { s with sched := ts }) hq ha).1
  · exact (step_of_alone hsched hbusy).trans (host_refused hq ha).2

/-! ### The bytes on the wire (R87, R88) -/

/-- The page address is written low byte first (R59, R87). -/
theorem pageWrites (sel : Counter) :
    [Micro.write (pageLo sel), .write (pageHi sel)] =
      [.write (match sel with | .a => 0xC0#8 | .b => 0xE0#8), .write 0x01#8] := by
  cases sel <;> rfl

theorem phaseConfig_eq_configByte (c : Cfg) (ph : Phase) :
    phaseConfig c ph = configByte (decide (ph = .one)) c.bindCurr := by
  cases ph <;> exact Analog.cfgByte_eq_configByte _ _

/-- Settles O41: each row of R87 by evaluation, with the page address and the configuration byte as the claims list them. -/
theorem wireCommandsAndWhatFollows : Obligations.WireCommandsAndWhatFollows := by
  intro s
  refine ⟨rfl, ?_, ?_, rfl, rfl, rfl, rfl⟩
  · exact congrArg (fun ms => Host.Outcome.next ((s.busWrite 0xA5#8).push (ms ++ List.replicate 32 (.read .discard) ++
      [.read (.cnt 0), .read (.cnt 1), .read (.cnt 2), .read (.cnt 3)]))) (pageWrites s.work.sel)
  · rw [← phaseConfig_eq_configByte]
    rfl

/-- Settles O42: each byte of R88 by evaluation. -/
theorem configBytesOnTheWire : Obligations.ConfigBytesOnTheWire := fun _ => ⟨rfl, rfl, rfl, rfl⟩

theorem blockTurn_wire {s : State} {b : Byte} {rest : List Micro} {i : Instr} (htodo : s.todo = .wire b :: rest)
    (hok : decode (.wire b) = .ok i) : blockTurn s = exec i { s with todo := rest } := by
  simp only [blockTurn, htodo, hok]
  rfl

/-- Settles O44: the byte is decoded on the block's turn, by the schedule or while the block is busy. -/
theorem stepRunsWireByte : Obligations.StepRunsWireByte := by
  refine fun s b rest i ts htodo hok => ⟨fun hsched hbusy => ?_, fun hsched => ?_⟩
  · exact (step_of_running hsched hbusy).trans (blockTurn_wire htodo hok)
  · exact (step_of_sched hsched).trans (blockTurn_wire (s := { s with sched := ts }) htodo hok)

end Sys2Proof.Proofs.Step
end

section
/-! PROOFS. CNT_POLL (42_counter.md R156, R157), segment by segment: bus check, transaction, publish; the settling of O26 to O28. Then
CNT_BYTES with CNT_ASSEMBLE (O60). -/

namespace Sys2Proof.Proofs.Counter
open Sys2Proof.Machine Sys2Proof.Claims Sys2Proof.Proofs.Sequencer

/-! ### The segments of CNT_POLL -/

theorem counterSink_eq (c : Cfg) (sel : Counter) : counterSink c sel = (counterChannel sel, counterBound c sel) := by
  cases sel <;> rfl

theorem counterBound_eq (c : Cfg) (sel : Counter) : counterBound c sel = (counterSink c sel).2 := by rw [counterSink_eq]

theorem beginCntPoll_of_unbound {s : State} {sel : Counter} (h : counterBound s.cfg sel = false) :
    beginCntPoll sel s = s.setOutcome .skippedUnbound := if_neg (by rw [h]; nofun)

theorem beginCntPoll_of_bound {s : State} {sel : Counter} (h : counterBound s.cfg sel = true) :
    beginCntPoll sel s = s.beginPoll (.cntPoll .busCheck) { Work.none with sel := sel } cntProgram := if_pos h

/-- Settles O26: an unbound counter is not polled. -/
theorem cntPollUnboundSkips : Obligations.CntPollUnboundSkips := by
  intro s sel hunbound
  rw [← counterBound_eq] at hunbound
  show execCntPoll sel s = _
  rw [execCntPoll, if_neg (by rw [hunbound]; nofun), beginCntPoll_of_unbound hunbound]
  rfl

/-- CNT_POLL after its transaction. -/
def afterTransaction : List Micro := [.enter (.cntPoll .publish), .publishCounter, .outcome .ok, .finish]

/-- CNT_POLL after its reset. -/
def afterReset : List Micro := .enter (.cntPoll .transact) :: .select .cnt :: .wire 0xA5#8 :: afterTransaction

theorem cntProgram_eq :
    cntProgram = .enter (.cntPoll .busCheck) :: .initialReset .cntUnreachable :: afterReset := rfl

/-- The block holding the lock, at the initial reset. -/
def holdingLock (sel : Counter) (s : State) : State :=
  { s with
    busy := true
    seq := .running (.cntPoll .busCheck)
    lock := .mine
    todo := afterReset
    work := { Work.none with sel := sel } }

/-- A free lock is acquired at once (R66), and then comes the reset. -/
theorem microSteps_busCheck {s : State} {sel : Counter} (h : s.Ready) (hbound : counterBound s.cfg sel = true) :
    microSteps 3 (beginCntPoll sel s) = initialReset .cntUnreachable (holdingLock sel s) := by
  rw [beginCntPoll_of_bound hbound, microSteps_add 1 2, microSteps_acquire _ _ _ h.lock, microSteps_cons 1 _ _ _ cntProgram_eq]
  rfl

/-- A run that comes to its end within the fuel is what the whole operation answers. -/
theorem exec_cntPoll_of_run {k : Nat} {sel : Counter} {s t : State} (hbound : counterBound s.cfg sel = true) (hk : k ≤ pollFuel)
    (hrun : microSteps k (beginCntPoll sel s) = t) (hend : t.todo = []) : exec (.cntPoll sel) s = .next t :=
  (if_pos hbound).trans (congrArg Host.Outcome.next (microSteps_of_ended hk hrun hend))

/-- Settles O27: bus check, then the failure's course. -/
theorem cntPollBusUnreachable : Obligations.CntPollBusUnreachable := by
  intro s sel h hbound habsent
  rw [← counterBound_eq] at hbound
  refine exec_cntPoll_of_run (k := 3 + 2) hbound (by decide) ?_ h.todo
  rw [microSteps_add, microSteps_busCheck h hbound, initialReset_of_absent _ (holdingLock sel s) habsent,
    microSteps_outcome_finish .busUnreachable _ rfl]
  simp [State.finish, State.setOutcome, holdingLock, OutcomeCode.code, h.busy, h.seq, h.lock, h.todo, h.work]

/-- The reads that fill the latch (R87, R156). -/
def readLatch : List Micro := [.read (.cnt 0), .read (.cnt 1), .read (.cnt 2), .read (.cnt 3)]

/-- The events of the transaction before its reads, with the page address as the model writes it. -/
def openPageEvents (c : Cfg) (sel : Counter) : List Event :=
  [.select c.addrCnt, .write 0xA5#8, .write (pageLo sel), .write (pageHi sel)]

/-- The command and the page address, up to the reads. -/
theorem microSteps_openPage {t : State} {rest : List Micro}
    (h : t.todo = .enter (.cntPoll .transact) :: .select .cnt :: .wire 0xA5#8 :: rest) :
    microSteps 5 t = { t with
      seq := .running (.cntPoll .transact)
      todo := List.replicate 32 (.read .discard) ++ (readLatch ++ rest)
      events := t.events ++ openPageEvents t.cfg t.work.sel } := by
  have hwire (u : State) : wireByte 0xA5#8 u = (u.busWrite 0xA5#8).push
      (.write (pageLo u.work.sel) :: .write (pageHi u.work.sel) :: (List.replicate 32 (.read .discard) ++ readLatch)) := rfl
  simp [microSteps, microStep, h, runMicro, hwire, openPageEvents, deviceAddr, State.goto, State.enter, State.push,
    State.busSelect, State.busWrite, State.emit]

/-- The answers from here on are the next one and those after it. -/
theorem readAnswers_succ (s : State) (n : Nat) :
    s.readAnswers 0 (n + 1) = s.readAnswer 0 :: s.busRead.readAnswers 0 n := by
  simp [State.readAnswers, List.range'_succ, List.range'_eq_map_range, Nat.add_comm 1]

theorem readAnswers_append (s : State) (m n : Nat) : s.readAnswers 0 m ++ s.readAnswers m n = s.readAnswers 0 (m + n) := by
  rw [State.readAnswers, State.readAnswers, State.readAnswers, ← List.map_append, ← List.range'_append, Nat.zero_add,
    Nat.one_mul]

/-- After `n` reads whose bytes are discarded, with `rest` still to be taken. -/
def discarded (n : Nat) (rest : List Micro) (t : State) : State :=
  { t with
    todo := rest
    readPos := t.readPos + n
    events := t.events ++ (t.readAnswers 0 n).map .read }

theorem readAnswer_discarded (n : Nat) (rest : List Micro) (t : State) (k : Nat) :
    (discarded n rest t).readAnswer k = t.readAnswer (n + k) := by
  simp [State.readAnswer, discarded, Nat.add_assoc]

theorem readAnswers_discarded (n : Nat) (rest : List Micro) (t : State) (k : Nat) :
    (discarded n rest t).readAnswers 0 k = t.readAnswers n k := by
  simp [State.readAnswers, List.range'_eq_map_range, readAnswer_discarded]

/-- Reads whose bytes are discarded. -/
theorem microSteps_discard (n : Nat) {t : State} {rest : List Micro} (h : t.todo = List.replicate n (.read .discard) ++ rest) :
    microSteps n t = discarded n rest t := by
  induction n generalizing t with
  | zero =>
    have htodo : t.todo = rest := h
    simp [microSteps, discarded, State.readAnswers, ← htodo]
  | succ n ih =>
    have htodo : t.todo = .read .discard :: (List.replicate n (.read .discard) ++ rest) := h
    rw [microSteps_cons n t _ _ htodo, ih rfl, discarded, discarded, readAnswers_succ]
    simp [runMicro, State.store, State.busRead, State.goto, State.readAnswers, State.readAnswer, Nat.add_comm 1, Nat.add_assoc]

/-- Writing all four bytes leaves nothing of the latch before. -/
theorem set_four (v : Vector (Option Byte) 4) (b0 b1 b2 b3 : Option Byte) :
    (((v.set 0 b0).set 1 b1).set 2 b2).set 3 b3 = #v[b0, b1, b2, b3] := by
  refine Vector.ext fun i hi => ?_
  interval_cases i <;> simp

/-- The four reads of the latch. -/
theorem microSteps_readLatch {t : State} {rest : List Micro} (h : t.todo = readLatch ++ rest) :
    microSteps 4 t = { t with
      todo := rest
      cntLatch := #v[some (t.readAnswer 0), some (t.readAnswer 1), some (t.readAnswer 2), some (t.readAnswer 3)]
      readPos := t.readPos + 4
      events := t.events ++ (t.readAnswers 0 4).map .read } := by
  have hreads : t.readAnswers 0 4 = [t.readAnswer 0, t.readAnswer 1, t.readAnswer 2, t.readAnswer 3] := rfl
  rw [← set_four t.cntLatch, hreads]
  simp [microSteps, microStep, h, readLatch, runMicro, State.goto, State.busRead, State.store, State.loadCnt,
    State.readAnswer, Nat.add_assoc]

/-- The 36 reads of the page. -/
theorem microSteps_readPage {t : State} {rest : List Micro}
    (h : t.todo = List.replicate 32 (.read .discard) ++ (readLatch ++ rest)) :
    microSteps 36 t = { t with
      todo := rest
      cntLatch := #v[some (t.readAnswer 32), some (t.readAnswer 33), some (t.readAnswer 34), some (t.readAnswer 35)]
      readPos := t.readPos + 36
      events := t.events ++ (t.readAnswers 0 36).map .read } := by
  rw [microSteps_add 32 4, microSteps_discard 32 h, microSteps_readLatch rfl]
  simp only [readAnswers_discarded, readAnswer_discarded]
  simp only [discarded, List.append_assoc, ← List.map_append, readAnswers_append, Nat.add_assoc, Nat.reduceAdd]

/-- R156's wire sequence, as the claims write it out. -/
theorem counterTransaction_eq (s : State) (sel : Counter) :
    counterTransaction s sel = openPageEvents s.cfg sel ++ (s.readAnswers 0 36).map Event.read := by
  have hopen : [Event.select s.cfg.addrCnt, .write 0xA5#8, .write (match sel with | .a => 0xC0#8 | .b => 0xE0#8),
      .write 0x01#8] = openPageEvents s.cfg sel := by cases sel <;> rfl
  exact congrArg (· ++ (s.readAnswers 0 36).map Event.read) hopen

/-- The transaction of R156 after its reset. -/
theorem microSteps_transaction {t : State} (h : t.todo = afterReset) :
    microSteps 41 t = { t with
      seq := .running (.cntPoll .transact)
      todo := afterTransaction
      cntLatch := #v[some (t.readAnswer 32), some (t.readAnswer 33), some (t.readAnswer 34), some (t.readAnswer 35)]
      readPos := t.readPos + 36
      events := t.events ++ counterTransaction t t.work.sel } := by
  rw [microSteps_add 5 36, microSteps_openPage h, microSteps_readPage rfl, counterTransaction_eq, List.append_assoc]
  rfl

/-- The publish of a latch whose four bytes are written. -/
theorem publishCounter_of_written {t : State} {b0 b1 b2 b3 : Byte}
    (h : t.cntLatch = #v[some b0, some b1, some b2, some b3]) :
    publishCounter t = t.emit [.publish (counterChannel t.work.sel) (.num (littleEndian b0 b1 b2 b3 : Rat))] := by
  have hnum : (BitVec.ofNat 32 (littleEndian b0 b1 b2 b3)).toNat = littleEndian b0 b1 b2 b3 :=
    Nat.mod_eq_of_lt (littleEndian_lt b0 b1 b2 b3)
  rw [publishCounter, cntValue_of_written h]
  exact congrArg (fun n : Nat => t.emit [.publish (counterChannel t.work.sel) (.num (n : Rat))]) hnum

/-- The publish and the end. -/
theorem microSteps_publish {t : State} {b0 b1 b2 b3 : Byte} (h : t.todo = afterTransaction)
    (hlatch : t.cntLatch = #v[some b0, some b1, some b2, some b3]) :
    microSteps 4 t = { t.finish with
      outcome := 0#4
      events := t.events ++ [.publish (counterChannel t.work.sel) (.num (littleEndian b0 b1 b2 b3 : Rat))] } := by
  rw [microSteps_cons 3 t _ _ h, runMicro, microSteps_cons 2 _ .publishCounter [.outcome .ok, .finish] rfl, runMicro,
    publishCounter_of_written (t := ((t.goto [.publishCounter, .outcome .ok, .finish]).enter _).goto [.outcome .ok, .finish])
      hlatch, microSteps_outcome_finish .ok _ rfl]
  simp [State.finish, OutcomeCode.code]

/-- Settles O28: bus check, transaction, publish. -/
theorem cntPollPublishesCounter : Obligations.CntPollPublishesCounter := by
  intro s sel h hbound hpresent
  rw [counterSink_eq] at hbound ⊢
  refine exec_cntPoll_of_run (k := 3 + (41 + 4)) hbound (by decide) ?_ h.todo
  rw [microSteps_add, microSteps_busCheck h hbound, initialReset_of_present _ (holdingLock sel s) hpresent, microSteps_add,
    microSteps_transaction rfl, microSteps_publish rfl rfl]
  simp only [State.finish, holdingLock, h.busy, h.seq, h.lock, h.todo, h.work]
  rfl

/-! ### CNT_BYTES and CNT_ASSEMBLE (R90, R154) -/

/-- Settles O60: four loads write the whole latch, so it has a value. -/
theorem cntBytesThenAssemble : Obligations.CntBytesThenAssemble := by
  intro s b0 b1 b2 b3
  let u := (((s.loadCnt 0 b0).loadCnt 1 b1).loadCnt 2 b2).loadCnt 3 b3
  have hlatch : u.cntLatch = #v[some b0, some b1, some b2, some b3] := set_four s.cntLatch _ _ _ _
  refine ⟨_, ⟨_, rfl, _, rfl, _, rfl, u, rfl, _, exec_cntAssemble_of_value (cntValue_of_written hlatch), rfl⟩, ?_, rfl⟩
  exact Nat.mod_eq_of_lt (littleEndian_lt b0 b1 b2 b3)

end Sys2Proof.Proofs.Counter
end

section
/-! PROOFS. ADC_POLL without a second phase (O37) and with one whose initial reset fails (O39), and the waits of every way through it
(O40; 43_analog.md R180 to R186, 70_reset_and_hazards.md R241). -/

namespace Sys2Proof.Proofs.Analog
open Sys2Proof.Machine Sys2Proof.Claims Sys2Proof.Proofs.Sequencer

/-! ### The other two ways through ADC_POLL -/

theorem phase2Program_of_unbound {c : Cfg} (h : c.bindVad = false) : phase2Program c = [] := if_neg (by rw [h]; nofun)

/-- Settles O37: phase 1 to its end, and END. -/
theorem adcPollOnePhase : Obligations.AdcPollOnePhase := by
  intro s h hunbound hpresent
  have htodo : (phase1Done s).todo = [.finish] := congrArg (· ++ [Micro.finish]) (phase2Program_of_unbound hunbound)
  refine exec_adcPoll_of_run (k := phase1Length s.cfg + 1) ?_ ?_ h.todo
  · have := phase1Length_le s.cfg
    simp only [pollFuel]
    omega
  · rw [microSteps_add, microSteps_phase1 h hpresent, microSteps_finish htodo]
    simp [State.finish, phase1Done, h.busy, h.seq, h.lock, h.todo, h.work]

/-- Settles O39: phase 1 to its end, then phase 2's initial reset and the failure's course. -/
theorem adcPollPhase2Unreachable : Obligations.AdcPollPhase2Unreachable := by
  intro s h hbound hpresent habsent
  have htodo : (phase1Done s).todo = .setPhase .two :: .enter (.adcPoll .writeSp) :: .initialReset .adcPhase2 ::
      (afterReset .two ++ [.publishReading .vad, .finish]) := by
    show phase2Program s.cfg ++ [.finish] = _
    rw [phase2Program_of_bound hbound]
    rfl
  refine exec_adcPoll_of_run (k := phase1Length s.cfg + (3 + 2)) ?_ ?_ h.todo
  · have := phase1Length_le s.cfg
    simp only [pollFuel]
    omega
  · rw [microSteps_add, microSteps_phase1 h hpresent, microSteps_add, microSteps_phaseReset htodo, initialReset_of_absent,
      microSteps_outcome_finish .phase2Unreachable _ rfl]
    · simp [State.finish, State.setOutcome, phase1Done, OutcomeCode.code, h.busy, h.seq, h.lock, h.todo, h.work]
    · exact habsent

/-! ### Waits (R7, R58, R241) -/

/-- Events that are no waits add nothing. -/
theorem waitTotal_of_no_wait (c : Cfg) {es : List Event} (h : ∀ e ∈ es, e.waited? = none) : waitTotal c es = 0 := by
  rw [waitTotal, waitsOf, List.filterMap_eq_nil_iff.mpr h]
  rfl

theorem waitTotal_map_write (c : Cfg) (bs : List Byte) : waitTotal c (bs.map .write) = 0 :=
  waitTotal_of_no_wait c (List.forall_mem_map.mpr fun _ _ => rfl)

theorem waitTotal_map_read (c : Cfg) (bs : List Byte) : waitTotal c (bs.map .read) = 0 :=
  waitTotal_of_no_wait c (List.forall_mem_map.mpr fun _ _ => rfl)

theorem waitTotal_analogStep (c : Cfg) (p : Bool) (a : Addr) (bs : List Byte) (ws : List WaitName) :
    waitTotal c (analogStep p a bs ws) = (ws.map (WaitName.minMs c)).sum := by
  have hopen : waitTotal c [.reset p, .select a] = 0 := rfl
  have hwaits : waitsOf (ws.map .wait) = ws := by
    rw [waitsOf, List.filterMap_map]
    exact List.filterMap_some
  rw [analogStep, waitTotal_append, waitTotal_append, hopen, waitTotal_map_write, waitTotal, hwaits, Nat.zero_add]

/-- R241: the waits of a phase, which are four in phase 1 and three in phase 2. -/
theorem waitTotal_measureEvents (c : Cfg) (s : State) (first : Bool) (k r : Nat) :
    waitTotal c (measureEvents s first k r) =
      c.tCfgMs + (if first then c.tConvTMs else 0) + c.tConvVMs + c.tRecallMs := by
  cases first <;>
    simp [measureEvents, waitTotal_append, waitTotal_analogStep, waitTotal_map_read, WaitName.minMs, Nat.add_assoc]

theorem waitTotal_ifBound (c : Cfg) (bound : Bool) (ch : Channel) (q : Rat) : waitTotal c (ifBound bound ch q) = 0 := by
  cases bound <;> rfl

theorem waitTotal_phase1Publishes (c : Cfg) (s : State) : waitTotal c (phase1Publishes s) = 0 := by
  simp only [phase1Publishes, waitTotal_append, waitTotal_ifBound]

/-- What ADC_POLL adds to the history, and the waits in it, on each of its four ways. -/
theorem adcPoll_waits {s t : State} (h : s.Ready) (hexec : exec .adcPoll s = .next t) :
    ∃ es, t.events = s.events ++ es ∧ waitTotal s.cfg es = (if s.resetAnswer 0 then
      s.cfg.tCfgMs + s.cfg.tConvTMs + s.cfg.tConvVMs + s.cfg.tRecallMs +
        (if s.cfg.bindVad && s.resetAnswer 5 then s.cfg.tCfgMs + s.cfg.tConvVMs + s.cfg.tRecallMs else 0) else 0) := by
  cases hpresent1 : s.resetAnswer 0 with
  | false =>
    cases (adcPollBusUnreachable s h hpresent1).symm.trans hexec
    exact ⟨_, rfl, rfl⟩
  | true =>
    cases hbound : s.cfg.bindVad with
    | false =>
      cases (adcPollOnePhase s h hbound hpresent1).symm.trans hexec
      refine ⟨_, List.append_assoc _ _ _, ?_⟩
      simp [waitTotal_append, waitTotal_measureEvents, waitTotal_phase1Publishes]
    | true =>
      cases hpresent2 : s.resetAnswer 5 with
      | false =>
        cases (adcPollPhase2Unreachable s h hbound hpresent1 hpresent2).symm.trans hexec
        refine ⟨measureEvents s true 0 0 ++ phase1Publishes s ++ [.reset false], by simp, ?_⟩
        simp [waitTotal_append, waitTotal_measureEvents, waitTotal_phase1Publishes]
        rfl
      | true =>
        cases (adcPollTwoPhases s h hbound hpresent1 hpresent2).symm.trans hexec
        refine ⟨measureEvents s true 0 0 ++ phase1Publishes s ++ measureEvents s false 5 9 ++ phase2Publish s, by simp, ?_⟩
        have hpublish : waitTotal s.cfg (phase2Publish s) = 0 := rfl
        simp [waitTotal_append, waitTotal_measureEvents, waitTotal_phase1Publishes, hpublish]

/-- Settles O40: the totals of the four ways; R7's values put in; and the bounds of admitted durations. -/
theorem adcPollWaitTotals : Obligations.AdcPollWaitTotals := by
  intro s t h hexec
  obtain ⟨es, hevents, htotal⟩ := adcPoll_waits h hexec
  refine ⟨es, hevents, htotal, fun hdef => ?_, fun ds => admitsWaits_bounds s.cfg (waitsOf es) ds⟩
  obtain ⟨hcfg, hconvT, hconvV, hrecall⟩ := hdef
  rw [htotal, hcfg, hconvT, hconvV, hrecall]
  cases s.resetAnswer 0 <;> cases s.cfg.bindVad && s.resetAnswer 5 <;> rfl

end Sys2Proof.Proofs.Analog
end

section
/-! PROOFS. The poll operations together: how each ends (O58), taken step by step (O59), held while another user has the lock (O56),
and which elements they and the other operations write (O57). -/

namespace Sys2Proof.Proofs.Polls
open Sys2Proof.Machine Sys2Proof.Claims Sys2Proof.Proofs.Sequencer Sys2Proof.Proofs.Step

/-! ### The end of a poll operation -/

/-- Readiness only speaks of BUSY, the lock and the sequencer's fields. -/
theorem Ready.congr {s t : State} (h : s.Ready) (hbusy : t.busy = s.busy := by rfl) (hseq : t.seq = s.seq := by rfl)
    (hlock : t.lock = s.lock := by rfl) (htodo : t.todo = s.todo := by rfl) (hwork : t.work = s.work := by rfl) : t.Ready :=
  ⟨hbusy.trans h.busy, hseq.trans h.seq, hlock.trans h.lock, htodo.trans h.todo, hwork.trans h.work⟩

/-- The operation answers a ready state and no fault. -/
def EndsReady (i : Instr) (s : State) : Prop := ∃ t, exec i s = .next t ∧ t.Ready ∧ t.fault = s.fault

theorem gpioPoll_endsReady {s : State} (h : s.Ready) : EndsReady .gpioPoll s := by
  cases hpresent : s.resetAnswer 0 with
  | false => exact ⟨_, Gpio.gpioPollBusUnreachable s h hpresent, Ready.congr h, rfl⟩
  | true =>
    by_cases hmatch : TrailerMatches s
    · exact ⟨_, Gpio.gpioPollPublishesValidSnapshot s h hpresent hmatch, Ready.congr h, rfl⟩
    · exact ⟨_, Gpio.gpioPollChecksumMismatch s h hpresent hmatch, Ready.congr h, rfl⟩

theorem cntPoll_endsReady {s : State} (sel : Counter) (h : s.Ready) : EndsReady (.cntPoll sel) s := by
  cases hbound : (counterSink s.cfg sel).2 with
  | false => exact ⟨_, Counter.cntPollUnboundSkips s sel hbound, Ready.congr h, rfl⟩
  | true =>
    cases hpresent : s.resetAnswer 0 with
    | false => exact ⟨_, Counter.cntPollBusUnreachable s sel h hbound hpresent, Ready.congr h, rfl⟩
    | true => exact ⟨_, Counter.cntPollPublishesCounter s sel h hbound hpresent, Ready.congr h, rfl⟩

theorem adcPoll_endsReady {s : State} (h : s.Ready) : EndsReady .adcPoll s := by
  cases hpresent1 : s.resetAnswer 0 with
  | false => exact ⟨_, Analog.adcPollBusUnreachable s h hpresent1, Ready.congr h, rfl⟩
  | true =>
    cases hbound : s.cfg.bindVad with
    | false => exact ⟨_, Analog.adcPollOnePhase s h hbound hpresent1, Ready.congr h, rfl⟩
    | true =>
      cases hpresent2 : s.resetAnswer 5 with
      | false => exact ⟨_, Analog.adcPollPhase2Unreachable s h hbound hpresent1 hpresent2, Ready.congr h, rfl⟩
      | true => exact ⟨_, Analog.adcPollTwoPhases s h hbound hpresent1 hpresent2, Ready.congr h, rfl⟩

/-- Settles O58: on each way through each poll operation the block is as ready as before, and FAULT is unchanged. -/
theorem pollEndsReadyWithoutFault : Obligations.PollEndsReadyWithoutFault := by
  rintro i s (rfl | ⟨sel, rfl⟩ | rfl) h
  · exact gpioPoll_endsReady h
  · exact cntPoll_endsReady sel h
  · exact adcPoll_endsReady h

/-! ### Step by step -/

/-- A block whose steps are those of its sequencer: nobody else is scheduled, and it is busy or has no step left. -/
def Alone (s : State) : Prop := s.sched = [] ∧ (s.busy = true ∨ s.todo = [])

theorem alone_microStep {s : State} (h : Alone s) : Alone (microStep s) := by
  obtain ⟨hsched, hbusy | htodo⟩ := h
  · exact ⟨(kept_microStep s).sched.trans hsched, (microStep_busy_or_ended s).imp_left (·.trans hbusy)⟩
  · rw [microStep_nil s htodo]
    exact ⟨hsched, .inr htodo⟩

theorem run_succ {s t : State} (n : Nat) (h : step s = .next t) : core.run (n + 1) s = core.run n t := by
  have hcore : core.step s = .next t := h
  simp only [Host.Core.run, hcore]

/-- Any number of steps of the sequencer are steps of the machine, as many as the operation still has. -/
theorem run_of_alone (n : Nat) {s : State} (h : Alone s) : ∃ k ≤ n, core.run k s = .next (microSteps n s) := by
  induction n generalizing s with
  | zero => exact ⟨0, Nat.le_refl 0, rfl⟩
  | succ n ih =>
    rcases h.2 with hbusy | htodo
    · obtain ⟨k, hk, hrun⟩ := ih (alone_microStep h)
      exact ⟨k + 1, Nat.succ_le_succ hk, (run_succ k (step_busy s h.1 hbusy)).trans hrun⟩
    · rw [microSteps_nil (n + 1) s htodo]
      exact ⟨0, Nat.zero_le _, rfl⟩

/-- Settles O59: where a poll operation has begun, the fuel of the whole bounds the steps; a skipped one has none. -/
theorem stepwisePollEqualsWhole : Obligations.StepwisePollEqualsWhole := by
  intro i s t hpoll _ hsched hbegin
  rcases poll_cases hpoll s with ⟨p, w, prog, _, _, hbegin', hexec⟩ | ⟨_, _, _, hbegin', hexec⟩
  · cases hbegin'.symm.trans hbegin
    rw [hexec]
    exact run_of_alone pollFuel ⟨hsched, .inl rfl⟩
  · cases hbegin'.symm.trans hbegin
    exact ⟨0, Nat.zero_le _, hexec.symm⟩

/-! ### Waiting for the lock (R66) -/

/-- Settles O56: begun while another user holds the lock, the operation stays where it begins, as a whole and in a step. -/
theorem pollHeldWhileLockTaken : Obligations.PollHeldWhileLockTaken := by
  intro s i hpoll hbound hlock hsched
  rcases poll_cases hpoll s with ⟨p, w, prog, _, _, _, hexec⟩ | ⟨sel, rfl, hunbound, _⟩
  · rw [microSteps_beginPoll_of_locked pollFuel p w prog hlock] at hexec
    have hwait : microStep (s.beginPoll p w prog) = s.beginPoll p w prog := microStep_waiting _ prog rfl hlock
    exact ⟨p, w, prog, hexec, (step_busy (s.beginPoll p w prog) hsched rfl).trans (congrArg _ hwait)⟩
  · have := hbound sel rfl
    rw [Counter.counterSink_eq] at this
    cases hunbound.symm.trans this

/-! ### What each operation writes -/

theorem all_notGpioWrite_of_onWire {ms : List Micro} (h : ms.all onWire = true) : ms.all notGpioWrite = true := by
  refine List.all_eq_true.mpr fun m hm => ?_
  have hwire := List.all_eq_true.mp h m hm
  cases m with
  | wire b | write b | read dst => rfl
  | _ => cases hwire

theorem all_notGpioWrite_failProgram (f : Failure) : (failProgram f).all notGpioWrite = true := by
  cases f <;> rfl

/-- No step that only GPIO_POLL has is still to be taken, and CRC_OK and RETAINED have these values. -/
structure Quiet (ok : Bool) (ret : Byte) (s : State) : Prop where
  todo : s.todo.all notGpioWrite = true
  crcOk : s.crcOk = ok
  retained : s.retained = ret

theorem quiet_of_continued {ok : Bool} {ret : Byte} {m : Micro} {rest : List Micro} {s t : State} (h : Quiet ok ret s)
    (hm : notGpioWrite m = true) (hrest : rest.all notGpioWrite = true) (hc : Continued m (s.goto rest) t) :
    Quiet ok ret t := by
  refine ⟨?_, ?_, ?_⟩
  · rcases hc.todo with ⟨ms, htodo, hwire⟩ | ⟨f, htodo⟩
    · rw [htodo, List.all_append, all_notGpioWrite_of_onWire hwire]
      exact hrest
    · rw [htodo, all_notGpioWrite_failProgram]
  · rcases hc.crcOk with hok | rfl
    · exact hok.trans h.crcOk
    · cases hm
  · rcases hc.retained with hret | rfl
    · exact hret.trans h.retained
    · cases hm

theorem quiet_microStep {ok : Bool} {ret : Byte} {s : State} (h : Quiet ok ret s) : Quiet ok ret (microStep s) := by
  cases htodo : s.todo with
  | nil =>
    rw [microStep_nil s htodo]
    exact h
  | cons m rest =>
    have hall := h.todo
    rw [htodo, List.all_cons, Bool.and_eq_true] at hall
    obtain ⟨hm, hrest⟩ := hall
    rw [microStep_cons s m rest htodo]
    rcases plain_or m with hplain | rfl | rfl
    · rcases runMicro_plain_cases m (s.goto rest) hplain with hc | hend
      · exact quiet_of_continued h hm hrest hc
      · rw [hend]
        exact ⟨rfl, h.crcOk, h.retained⟩
    · rw [runMicro_acquire]
      split
      · exact ⟨hrest, h.crcOk, h.retained⟩
      · exact ⟨hrest, h.crcOk, h.retained⟩
    · exact ⟨rfl, h.crcOk, h.retained⟩

/-- A poll operation leaves RESULT, and all but GPIO_POLL leave CRC_OK and RETAINED. -/
theorem poll_writes {i : Instr} {s t : State} (hpoll : IsPoll i) (h : exec i s = .next t) :
    t.result = s.result ∧ (i ≠ .gpioPoll → t.crcOk = s.crcOk ∧ t.retained = s.retained) := by
  rcases poll_cases hpoll s with ⟨p, w, prog, _, hprog, _, hexec⟩ | ⟨_, _, _, _, hexec⟩
  · rw [← Host.Outcome.next.inj (hexec.symm.trans h)]
    refine ⟨(kept_microSteps _ _).result, fun hne => ?_⟩
    have hquiet : Quiet s.crcOk s.retained (microSteps pollFuel (s.beginPoll p w prog)) :=
      microSteps_invariant (Quiet s.crcOk s.retained) (fun _ => quiet_microStep) pollFuel (s.beginPoll p w prog)
        ⟨hprog hne, rfl, rfl⟩
    exact ⟨hquiet.crcOk, hquiet.retained⟩
  · cases hexec.symm.trans h
    exact ⟨rfl, fun _ => ⟨rfl, rfl⟩⟩

/-- A byte on the wire is a `BusWrite` and writes no register (R87, R88). -/
theorem wire_writes {i : Instr} {b : Byte} {s t : State} (hwire : encode i = .wire b) (h : exec i s = .next t) :
    t.crcOk = s.crcOk ∧ t.retained = s.retained ∧ t.outcome = s.outcome := by
  have hwf : i.wf = true := by
    cases i with
    | spLoad k v => cases hwire
    | _ => rfl
  have hok : decode (.wire b) = .ok i := hwire ▸ Encoding.decode_encode i hwf
  cases (exec_wire b i s hok).symm.trans h
  rw [wireByte_frame]
  exact ⟨rfl, rfl, rfl⟩

/-- Settles O57: for an operation word that is no poll operation, for a poll operation and for a byte on the wire. -/
theorem onlyNamedOperationsWrite : Obligations.OnlyNamedOperationsWrite := by
  intro i s t h
  by_cases hpoll : IsPoll i
  · obtain ⟨hresult, hquiet⟩ := poll_writes hpoll h
    exact ⟨fun _ hne => (hquiet hne).1, fun _ hne => (hquiet hne).2, fun hno => absurd hpoll hno, fun _ => hresult⟩
  · cases hcode : encode i with
    | cmd w =>
      have hcomp := completed_of_exec hcode hpoll h
      exact ⟨fun hne _ => hcomp.crcOk.resolve_right fun ⟨tr, htr⟩ => hne tr htr,
        fun hne _ => hcomp.retained.resolve_right fun ⟨v, hv⟩ => hne v hv, fun _ => hcomp.outcome, fun hp => absurd hp hpoll⟩
    | wire b =>
      obtain ⟨hok, hret, houtcome⟩ := wire_writes hcode h
      exact ⟨fun _ _ => hok, fun _ _ => hret, fun _ => houtcome, fun hp => absurd hp hpoll⟩

end Sys2Proof.Proofs.Polls
end

section
/-! PROOFS. The GPIO unit again (41_gpio_edge.md): the change mask bit by bit (O12), a repeated snapshot (O20), and where in SEQ each
event of GPIO_POLL happens (O19). -/

namespace Sys2Proof.Proofs.Gpio
open Sys2Proof.Machine Sys2Proof.Claims Sys2Proof.Proofs.Sequencer Sys2Proof.Proofs.Step

/-! ### Changes -/

theorem active_iff (s : Byte) (i : Fin 8) : active s i = true ↔ s.getLsbD i = false := by
  rw [active, Bool.not_eq_true']

/-- Two snapshots differ in a channel's active state exactly where they differ in its bit. -/
theorem active_ne_iff (s r : Byte) (i : Fin 8) : active s i ≠ active r i ↔ (s.getLsbD i ^^ r.getLsbD i) = true := by
  rw [active, active]
  cases s.getLsbD i <;> cases r.getLsbD i <;> decide

/-- Settles O12: R122's mask bit by bit. -/
theorem edgeMaskMarksBoundChanges : Obligations.EdgeMaskMarksBoundChanges := by
  intro s r bind i
  refine ⟨active_iff s i, ?_⟩
  rw [edges_getLsbD, Bool.and_eq_true, active_ne_iff, and_comm]

theorem changedPublishes_self (v bind : Byte) : changedPublishes v v bind = [] := by
  rw [← edgeEvents_eq_changedPublishes, edgeEvents_self]

/-- What a cycle that succeeds retains and publishes. -/
theorem exec_gpioPoll_succeeded {s t : State} (h : s.Ready) (hexec : exec .gpioPoll s = .next t) (hok : t.outcome = 0#4) :
    t.sinkHistory = s.sinkHistory ++ (changedPublishes t.retained s.retained s.cfg.bindGpio).filterMap Event.published? := by
  obtain ⟨_, _, ⟨hfail, _⟩ | ⟨_, hret, hsink⟩⟩ := exec_gpioPoll_cases h hexec
  · exact absurd hok hfail
  · rw [hret, hsink]

/-- Settles O20: the second cycle compares the snapshot with itself. -/
theorem gpioPollRepeatedSnapshotIsSilent : Obligations.GpioPollRepeatedSnapshotIsSilent := by
  intro s t u h hexec _ hexec' hok' hret
  obtain ⟨hready, _⟩ := exec_gpioPoll_cases h hexec
  rw [exec_gpioPoll_succeeded hready hexec' hok', hret, changedPublishes_self]
  exact List.append_nil _

/-! ### Where in SEQ the events of GPIO_POLL happen (R125) -/

/-- Whether R125 has this step of the sequencer in this step of SEQ. -/
def allowedIn (st : GpioStep) : Micro → Bool
  | .acquire | .enter (.gpioPoll _) | .validate | .retain | .outcome _ | .finish => true
  | .initialReset f => st == .busCheck && f == .gpioUnreachable
  | .select _ | .write _ | .read _ => st == .transact
  | .wire b => st == .transact && b == 0xF0#8
  | .publishEdge _ => st == .publish
  | .publishUnavailable _ => st == .unavailable
  | _ => false

/-- The step of SEQ after a step of the sequencer. -/
def stepAfter (st : GpioStep) : Micro → GpioStep
  | .enter (.gpioPoll st') => st'
  | _ => st

/-- Whether each of the steps still to be taken, from this step of SEQ on, is where R125 has it. -/
def inPlace : GpioStep → List Micro → Bool
  | _, [] => true
  | st, m :: ms => allowedIn st m && inPlace (stepAfter st m) ms

theorem inPlace_gpioProgram : inPlace .busCheck (.acquire :: gpioProgram) = true := by decide

theorem inPlace_gpioUnavailable (st : GpioStep) (c : OutcomeCode) : inPlace st (gpioUnavailable c) = true := by
  cases st <;> cases c <;> decide

/-- The poll operation has ended, or it goes on with each of its steps in place. -/
def GpioAt (s : State) : Prop := s.todo = [] ∨ ∃ st, s.seq = .running (.gpioPoll st) ∧ inPlace st s.todo = true

/-- A step of the sequencer in the step `st` of SEQ: those after it are in place, and so are the events it adds. -/
structure TakenIn (st : GpioStep) (s t : State) : Prop where
  goes : GpioAt t
  events : ∃ es, t.events = s.events ++ es ∧ ∀ e ∈ es, gpioStepOf e st := by
    exact ⟨[], (List.append_nil _).symm, nofun⟩

theorem gpioStepOf_edgeEvent {s m : Byte} {i : Fin 8} : ∀ e ∈ edgeEvent s m i, gpioStepOf e .publish := by
  intro e he
  rw [eq_of_mem_edgeEvent he]
  rfl

theorem gpioStepOf_unavailableEvent {bind : Byte} {i : Fin 8} :
    ∀ e ∈ unavailableEvent bind i, gpioStepOf e .unavailable := by
  intro e he
  rw [eq_of_mem_unavailableEvent he]
  rfl

theorem takenIn_initialReset {s : State} (hseq : s.seq = .running (.gpioPoll .busCheck))
    (hrest : inPlace .busCheck s.todo = true) : TakenIn .busCheck s (initialReset .gpioUnreachable s) := by
  cases hpresent : s.resetAnswer 0 with
  | false =>
    rw [initialReset_of_absent _ s hpresent]
    exact ⟨.inr ⟨_, hseq, inPlace_gpioUnavailable _ _⟩, _, rfl, List.forall_mem_singleton.mpr rfl⟩
  | true =>
    rw [initialReset_of_present _ s hpresent]
    exact ⟨.inr ⟨_, hseq, hrest⟩, _, rfl, List.forall_mem_singleton.mpr rfl⟩

theorem takenIn_validate {s : State} {st : GpioStep} (hseq : s.seq = .running (.gpioPoll st))
    (hrest : inPlace st s.todo = true) : TakenIn st s (validate s) := by
  by_cases hmatch : gpioCheck s.cfg s.work.snap ^^^ s.cfg.crcOutXor = s.work.trailHi ++ s.work.trailLo
  · rw [validate_of_match hmatch]
    exact { goes := .inr ⟨st, hseq, hrest⟩ }
  · rw [validate_of_mismatch hmatch]
    exact { goes := .inr ⟨st, hseq, inPlace_gpioUnavailable _ _⟩ }

theorem takenIn_read {s : State} (dst : ReadDst) (hseq : s.seq = .running (.gpioPoll .transact))
    (hrest : inPlace .transact s.todo = true) : TakenIn .transact s (s.busRead.store (s.readAnswer 0) dst) := by
  obtain ⟨w, c, p, hstore⟩ := store_frame s.busRead (s.readAnswer 0) dst
  rw [hstore]
  exact ⟨.inr ⟨_, hseq, hrest⟩, _, rfl, List.forall_mem_singleton.mpr rfl⟩

/-- A step that is where R125 has it, taken in the state that no longer lists it. -/
theorem takenIn_runMicro {m : Micro} {st : GpioStep} {s : State} (hseq : s.seq = .running (.gpioPoll st))
    (hm : allowedIn st m = true) (hrest : inPlace (stepAfter st m) s.todo = true) : TakenIn st s (runMicro m s) := by
  cases m with
  | acquire =>
    rw [runMicro_acquire]
    split
    · exact { goes := .inr ⟨st, hseq, hrest⟩ }
    · exact { goes := .inr ⟨st, hseq, hrest⟩ }
  | enter p =>
    cases p with
    | gpioPoll st' => exact { goes := .inr ⟨st', rfl, hrest⟩ }
    | cntPoll _ | adcPoll _ => cases hm
  | initialReset f =>
    obtain ⟨rfl, rfl⟩ : st = .busCheck ∧ f = .gpioUnreachable := by simpa [allowedIn] using hm
    exact takenIn_initialReset hseq hrest
  | select d | write b =>
    obtain rfl : st = .transact := by simpa [allowedIn] using hm
    exact ⟨.inr ⟨_, hseq, hrest⟩, _, rfl, List.forall_mem_singleton.mpr rfl⟩
  | read dst =>
    obtain rfl : st = .transact := by simpa [allowedIn] using hm
    exact takenIn_read dst hseq hrest
  | wire b =>
    obtain ⟨rfl, rfl⟩ : st = .transact ∧ b = 0xF0#8 := by simpa [allowedIn] using hm
    exact ⟨.inr ⟨_, hseq, hrest⟩, _, rfl, List.forall_mem_singleton.mpr rfl⟩
  | validate => exact takenIn_validate hseq hrest
  | publishEdge i =>
    obtain rfl : st = .publish := by simpa [allowedIn] using hm
    exact ⟨.inr ⟨_, hseq, hrest⟩, _, rfl, gpioStepOf_edgeEvent⟩
  | publishUnavailable i =>
    obtain rfl : st = .unavailable := by simpa [allowedIn] using hm
    exact ⟨.inr ⟨_, hseq, hrest⟩, _, rfl, gpioStepOf_unavailableEvent⟩
  | retain | outcome c => exact { goes := .inr ⟨st, hseq, hrest⟩ }
  | finish => exact { goes := .inl rfl }
  | setPhase _ | reset | wait _ | publishCounter | publishReading _ => cases hm

/-- A step of the sequencer that adds an event adds one of its place in SEQ; any step keeps the places. -/
theorem gpioAt_microStep {s : State} (h : GpioAt s) :
    GpioAt (microStep s) ∧ ∀ e, (microStep s).events = s.events ++ [e] →
      ∃ st, s.seq = .running (.gpioPoll st) ∧ gpioStepOf e st := by
  rcases h with htodo | ⟨st, hseq, hplace⟩
  · rw [microStep_nil s htodo]
    exact ⟨.inl htodo, fun e he => absurd he (by simp)⟩
  · cases htodo : s.todo with
    | nil =>
      rw [microStep_nil s htodo]
      exact ⟨.inl htodo, fun e he => absurd he (by simp)⟩
    | cons m rest =>
      rw [htodo, inPlace, Bool.and_eq_true] at hplace
      obtain ⟨hm, hrest⟩ := hplace
      rw [microStep_cons s m rest htodo]
      obtain ⟨hgoes, es, hes, hstep⟩ := takenIn_runMicro (s := s.goto rest) hseq hm hrest
      refine ⟨hgoes, fun e he => ⟨st, hseq, hstep e ?_⟩⟩
      have : es = [e] := List.append_cancel_left (hes.symm.trans he)
      rw [this]
      exact List.mem_singleton_self e

/-- What holds of every state of a GPIO_POLL that nobody else moves beside. -/
structure GpioRun (s : State) : Prop where
  sched : s.sched = []
  hostQ : s.hostQ = []
  gpio : GpioAt s

/-- With nobody else moving, a step is the sequencer's or changes nothing. -/
theorem step_of_gpioRun {s : State} (h : GpioRun s) : step s = .next (microStep s) ∨ step s = .next s := by
  cases hbusy : s.busy with
  | false =>
    rw [step_of_alone h.sched hbusy, hostAlone, h.hostQ]
    exact .inr rfl
  | true => exact .inl (step_busy s h.sched hbusy)

theorem gpioRun_step {s t : State} (h : GpioRun s) (hstep : step s = .next t) : GpioRun t := by
  rcases step_of_gpioRun h with hmicro | hsame
  · cases hmicro.symm.trans hstep
    have hkept := kept_microStep s
    exact ⟨hkept.sched.trans h.sched, hkept.hostQ.trans h.hostQ, (gpioAt_microStep h.gpio).1⟩
  · cases hsame.symm.trans hstep
    exact h

theorem gpioRun_run {k : Nat} {s t : State} (h : GpioRun s) (hrun : core.run k s = .next t) : GpioRun t := by
  induction k generalizing s with
  | zero => cases hrun; exact h
  | succ k ih =>
    obtain ⟨s', hstep⟩ : ∃ s', step s = .next s' := (step_of_gpioRun h).elim (⟨_, ·⟩) (⟨_, ·⟩)
    exact ih (gpioRun_step h hstep) ((Polls.run_succ k hstep).symm.trans hrun)

/-- Settles O19: each step of the program is where R125 has it, and stays there as the program runs. -/
theorem gpioPollEventsInTheirStep : Obligations.GpioPollEventsInTheirStep := by
  intro s t u k e _ hsched hhost hrun hstep hevent
  have hbegun : GpioRun (beginGpioPoll s) := ⟨hsched, hhost, .inr ⟨.busCheck, rfl, inPlace_gpioProgram⟩⟩
  have ht := gpioRun_run hbegun hrun
  rcases step_of_gpioRun ht with hmicro | hsame
  · cases hmicro.symm.trans hstep
    exact (gpioAt_microStep ht.gpio).2 e hevent
  · cases hsame.symm.trans hstep
    exact absurd hevent (by simp)

end Sys2Proof.Proofs.Gpio
end
